-- ==== Sys2Proof/Word.lean ====
section
/-! DEFINITION. The bus word and the byte of the block (00_scope.md R6: 32-bit bus, 8-bit samples). -/

namespace Sys2Proof

/-- A 32-bit bus word: register contents, command words, RGBA pixel words (R21, R62, R65). -/
abbrev Word := BitVec 32

/-- An 8-bit sample, luminance, threshold, LUT entry or dot mask (R6). -/
abbrev Byte := BitVec 8

/-- The offset of a host access inside the block's span, address bits [24:0] (R60). -/
abbrev Offset := BitVec 25

end Sys2Proof
end

