-- ==== Sys2Proof/Config.lean ====
section
/-! DEFINITION. What an implementation fixes (00_scope.md R6, R7): the three open parameters, as constants without
a body, and the fixed ones. -/

namespace Sys2Proof

/-- Bits [31:25] of `BASE`: OPEN (R6, U6; log 5). -/
opaque Config.baseTop : BitVec 7

/-- `MASK_DEPTH` - 1: OPEN within the bounds of R6 (U6; log 4). -/
opaque Config.maskDepthPred : Fin 262144

/-- `PIX_DEPTH` - 1: OPEN within the bounds of R6 (U6; log 4). -/
opaque Config.pixDepthPred : Fin 4194304

/-- `BASE`, aligned to 32 MiB (R6). -/
def Config.base : Word := Config.baseTop ++ (0 : BitVec 25)

/-- `MASK_DEPTH`, an integer from 1 to 2^18 (R6). -/
def Config.maskDepth : Nat := Config.maskDepthPred.val + 1

/-- `PIX_DEPTH`, an integer from 1 to 2^22 (R6). -/
def Config.pixDepth : Nat := Config.pixDepthPred.val + 1

/-- The greatest `MASK_DEPTH` of R6. -/
def Config.maskDepthMax : Nat := 2 ^ 18

/-- The greatest `PIX_DEPTH` of R6. -/
def Config.pixDepthMax : Nat := 2 ^ 22

/-- `DOTS_PER_CELL_X` (R6). -/
def Config.dotsPerCellX : Nat := 2

/-- `DOTS_PER_CELL_Y` (R6). -/
def Config.dotsPerCellY : Nat := 4

/-- The contrast LUT's number of entries (R6, R37). -/
def Config.lutSize : Nat := 256

/-- What the register `ID` always reads (R22). -/
def Config.idValue : Word := 0x49324201#32

end Sys2Proof
end

