-- ==== Sys2Proof/Syntax.lean ====
section
/-! DEFINITION. The 19 commands of the opcode map (30_encoding.md R93), the registers of the register map
(10_state.md R21), and what can arrive at the block from outside: host accesses, the reset input, and the
moment at which the engine finishes (00_scope.md R13, R41, R73, R262). -/

namespace Sys2Proof

/-- The commands of R93, one constructor per row of the opcode table. A command word carries no operand
(R92), so no constructor has an argument. -/
inductive Instr where
  | nop       -- R210
  | clear     -- R145
  | lutgen    -- R115
  | contrast  -- R117
  | encode    -- R146
  | render    -- R148
  | encpix    -- R147
  | luma      -- R114
  | curve     -- R116
  | decide    -- R118
  | lumaxy    -- R192
  | glyphEnc  -- R149
  | glyphCell -- R150
  | glyphDec  -- R171
  | setglyph  -- R172
  | unpack    -- R173
  | unpackall -- R174
  | gridPix   -- R190
  | gridCell  -- R191
  deriving DecidableEq, Repr

/-- The registers of the register map, in the table's order (R21). -/
inductive Reg where
  | id | ctrl | thresh | contrastAmount
  | cellCols | cellRows | bufW | bufH
  | arg0 | arg1
  | res0 | res1 | res2 | res3
  | cmd | status | irqEn
  | maskDepth | pixDepth
  deriving DecidableEq, Repr

/-- A host access presented to the block: always 32 bits wide (R62), at an offset inside the span (R60). -/
inductive Access where
  | read (off : Offset)
  | write (off : Offset) (v : Word)
  deriving DecidableEq, Repr

/-- What happens next at the block's boundary. -/
inductive Event where
  /-- A host access; if a command is in flight, it takes effect after that command has completed (R73). -/
  | host (a : Access)
  /-- A host read of `STATUS` that arrives before the command in flight has completed (R41, R73). How many of these follow
  a `CMD` write is how long the command keeps `BUSY` = 1 (R280, log 2). At the idle block, a read of `STATUS`. -/
  | poll
  /-- The engine's turn: a command in flight completes. -/
  | engine
  /-- The reset input is asserted and released (R260, R262). -/
  | reset
  deriving DecidableEq, Repr

/-- What an offset names (R60): a register, a word of a memory window, or nothing. -/
inductive BusTarget where
  | reg (r : Reg)
  | lut (c : Nat)
  | mask (i : Nat)
  | pix (p : Nat)
  | misaligned
  | unmapped
  deriving DecidableEq, Repr

end Sys2Proof
end

