-- ==== Sys2Proof/WellFormed.lean ====
section
/-! DEFINITION. What must hold of the data a host or an implementer supplies. A command carries no operand (30_encoding.md
R92), so every `Instr` is well formed; the checks that can fail are those of a command WORD (R90, R94), of a
bus access (R62, R63) and of the parameters (R6). -/

namespace Sys2Proof

/-- Every command is well formed: none has an operand that a check could refuse (R92). -/
def Instr.wellFormed : Instr → Bool
  | .nop | .clear | .lutgen | .contrast | .encode | .render | .encpix => true
  | .luma | .curve | .decide | .lumaxy => true
  | .glyphEnc | .glyphCell | .glyphDec | .setglyph | .unpack | .unpackall => true
  | .gridPix | .gridCell => true

/-- `RSV`, bits [31:8] of a command word, must be 0 (R90). -/
def reservedFieldClear (w : Word) : Bool := w.extractLsb' 8 24 == 0#24

/-- `OPC` must lie in the ranges that R94 does not list as illegal. -/
def opcodeAssigned (w : Word) : Bool :=
  let o := (w.extractLsb' 0 8).toNat
  o ≤ 0x06 || (0x10 ≤ o && o ≤ 0x13) || (0x20 ≤ o && o ≤ 0x21) || (0x28 ≤ o && o ≤ 0x2B) || (0x30 ≤ o && o ≤ 0x31)

/-- A command word is well formed when both checks pass (R94). -/
def commandWordWellFormed (w : Word) : Bool := reservedFieldClear w && opcodeAssigned w

/-- An access is aligned when bits [1:0] of its address are 0 (R63). -/
def Access.wellFormed : Access → Bool
  | .read off => off.toNat % 4 == 0
  | .write off _ => off.toNat % 4 == 0

/-- The bounds of R6 on the two depths. -/
def depthsWellFormed (maskDepth pixDepth : Nat) : Bool :=
  decide (1 ≤ maskDepth) && decide (maskDepth ≤ Config.maskDepthMax) &&
    (decide (1 ≤ pixDepth) && decide (pixDepth ≤ Config.pixDepthMax))

end Sys2Proof
end

