-- ==== Sys2Proof/Decode.lean ====
section
/-! DEFINITION. Decoding of command words (30_encoding.md R90, R91, R93, R94) and, after it, the encoder (R93). -/

namespace Sys2Proof

/-- Why a word is ILLEGAL (R94). -/
inductive DecodeError where
  /-- `RSV`, bits [31:8], is not 0. -/
  | reservedField
  /-- `OPC` is a value R93 does not assign. -/
  | reservedOpcode (opc : Byte)
  deriving DecidableEq, Repr

/-- The opcode map of R93: which command each assigned `OPC` selects. -/
def opcodeMap : List (Byte × Instr) :=
  [ (0x00#8, .nop), (0x01#8, .clear), (0x02#8, .lutgen), (0x03#8, .contrast),
    (0x04#8, .encode), (0x05#8, .render), (0x06#8, .encpix),
    (0x10#8, .luma), (0x11#8, .curve), (0x12#8, .decide), (0x13#8, .lumaxy),
    (0x20#8, .glyphEnc), (0x21#8, .glyphCell),
    (0x28#8, .glyphDec), (0x29#8, .setglyph), (0x2A#8, .unpack), (0x2B#8, .unpackall),
    (0x30#8, .gridPix), (0x31#8, .gridCell) ]

/-- The first row of an opcode map that names `opc`. -/
def lookupOpcode (opc : Byte) : List (Byte × Instr) → Option Instr
  | [] => none
  | (o, i) :: rows => if o = opc then some i else lookupOpcode opc rows

/-- `decode(w)` of R91, with the reason a word is ILLEGAL. -/
def decode (w : Word) : Except DecodeError Instr :=
  if w.extractLsb' 8 24 = 0#24 then
    match lookupOpcode (w.extractLsb' 0 8) opcodeMap with
    | some i => .ok i
    | none => .error (.reservedOpcode (w.extractLsb' 0 8))
  else .error .reservedField

/-- The bus word whose low `nbits` bits are those of `w`; a command is one 32-bit word, bit k of the bus being bit k of
the word (R65, R90). -/
def commandWordOf (nbits w : Nat) : Word := BitVec.ofNat 32 (w % 2 ^ nbits)

/-- What the decoder reads from an instruction given by its bits as the opcode table numbers them. -/
def decodeTableWord (nbits w : Nat) : Option Instr :=
  match decode (commandWordOf nbits w) with
  | .ok i => some i
  | .error _ => none

/-- The command word of each command (R93, column "Word"). -/
def encode : Instr → Word
  | .nop       => 0x00000000#32
  | .clear     => 0x00000001#32
  | .lutgen    => 0x00000002#32
  | .contrast  => 0x00000003#32
  | .encode    => 0x00000004#32
  | .render    => 0x00000005#32
  | .encpix    => 0x00000006#32
  | .luma      => 0x00000010#32
  | .curve     => 0x00000011#32
  | .decide    => 0x00000012#32
  | .lumaxy    => 0x00000013#32
  | .glyphEnc  => 0x00000020#32
  | .glyphCell => 0x00000021#32
  | .glyphDec  => 0x00000028#32
  | .setglyph  => 0x00000029#32
  | .unpack    => 0x0000002A#32
  | .unpackall => 0x0000002B#32
  | .gridPix   => 0x00000030#32
  | .gridCell  => 0x00000031#32

end Sys2Proof
end

