-- ==== Sys2Proof/Machine/State.lean ====
section
/-! DEFINITION. The block's state as plain data (10_state.md R20), the reasons a step can stop, and the state after reset
(70_reset_and_hazards.md R260, R261). -/

namespace Sys2Proof.Machine

/-- A memory of `w`-bit entries, as (index, value) pairs with the indices strictly rising. An entry that is not
listed is unwritten (R40). With `w` = 8 this is a list of `Host.Cell`. -/
abbrev Memory (w : Nat) := List (Nat × BitVec w)

/-- The causes of an error report in `STATUS` (R223). -/
inductive ErrCause where
  /-- A command word that decodes to ILLEGAL. -/
  | illegal
  /-- Capacity exceeded, or a zero divisor. -/
  | cfg
  /-- An operand index outside the buffer or the grid. -/
  | oob
  /-- A misaligned or unmapped host access. -/
  | bus
  deriving DecidableEq, Repr

/-- The reasons the model stops. Each is the spec's own treatment of an unwritten entry (R40, R70, U1, U11), and
each is safe: hardware goes on with a value the spec does not state. -/
inductive Fault where
  /-- `LUT[c]` was read before any write since reset: raised by `CURVE`, `CONTRAST`, `RENDER` and host reads of
  the LUT window. Safe. -/
  | unwrittenLut (c : Nat)
  /-- `MASK[i]` was read before any write since reset: raised by `ENCODE`, `ENCPIX`, `GLYPH_CELL`, `UNPACK`,
  `UNPACKALL` and host reads of the mask window. Safe. -/
  | unwrittenMask (i : Nat)
  /-- `PIX[p]` was read before any write since reset: raised by `LUMAXY`, `ENCODE`, `ENCPIX`, `CONTRAST`, `RENDER`
  and host reads of the pixel window. Safe. -/
  | unwrittenPix (p : Nat)
  deriving DecidableEq, Repr

/-- The reasons the model declines an instruction. -/
inductive Refusal where
  /-- The instruction has no meaning in the model yet: raised only by `exec`'s arms, of which none is left. Safe. -/
  | notModelled (mnemonic : String)
  deriving DecidableEq, Repr

/-- Everything the block holds (R20), and the two lists that stand for the host (logs 1, 8). -/
structure State where
  /-- `CTRL[1:0]`: bit 0 `INVERT`, bit 1 `CONTRAST_EN` (R23). -/
  ctrl : BitVec 2
  /-- `THRESH[7:0]` (R24). -/
  thresh : Byte
  /-- `CONTRAST_AMOUNT[15:0]`, two's complement (R25). -/
  contrastAmount : BitVec 16
  /-- `CELL_COLS[15:0]` (R26). -/
  cellCols : BitVec 16
  /-- `CELL_ROWS[15:0]` (R26). -/
  cellRows : BitVec 16
  /-- `BUF_W[15:0]` (R27). -/
  bufW : BitVec 16
  /-- `BUF_H[15:0]` (R27). -/
  bufH : BitVec 16
  /-- `ARG0` (R28). -/
  arg0 : Word
  /-- `ARG1` (R28). -/
  arg1 : Word
  /-- `RES0` (R29). -/
  res0 : Word
  /-- `RES1` (R29). -/
  res1 : Word
  /-- `RES2` (R29). -/
  res2 : Word
  /-- `RES3` (R29). -/
  res3 : Word
  /-- `STATUS.DONE` (R31). -/
  done : Bool
  /-- `STATUS.ERR` (R31). -/
  err : Bool
  /-- `STATUS.ERRCODE` (R31, R223). -/
  errcode : BitVec 4
  /-- `IRQ_EN[1:0]`: bit 0 `DONE_IE`, bit 1 `ERR_IE` (R32). -/
  irqEn : BitVec 2
  /-- `MASK_DEPTH`, read only (R33). -/
  maskDepth : Nat
  /-- `PIX_DEPTH`, read only (R33). -/
  pixDepth : Nat
  /-- The contrast LUT (R37). -/
  lut : Memory 8
  /-- The dot-mask RAM (R38). -/
  mask : Memory 8
  /-- The pixel RAM, one RGBA8 word an entry (R39). -/
  pix : Memory 32
  /-- The word of the command in flight; `STATUS.BUSY` is 1 exactly when there is one (R31, R41). -/
  inFlight : Option Word
  /-- The model's own: what happens at the block's boundary next, first event first (log 1). -/
  inbox : List Event
  /-- The model's own: the values returned to host reads so far, oldest first (log 8). -/
  replies : List Word
  deriving DecidableEq, Repr

/-- The block after its reset input is released (R260, R261): every register 0 but the depths, which are the
parameters, every memory entry unwritten, no command in flight. `events` and `answered` are the host's, which
the block's reset does not touch (log 10). -/
def State.afterReset (maskDepth pixDepth : Nat) (events : List Event) (answered : List Word) : State where
  ctrl := 0
  thresh := 0
  contrastAmount := 0
  cellCols := 0
  cellRows := 0
  bufW := 0
  bufH := 0
  arg0 := 0
  arg1 := 0
  res0 := 0
  res1 := 0
  res2 := 0
  res3 := 0
  done := false
  err := false
  errcode := 0
  irqEn := 0
  maskDepth := maskDepth
  pixDepth := pixDepth
  lut := []
  mask := []
  pix := []
  inFlight := none
  inbox := events
  replies := answered

/-- The machine right after reset, with nothing yet asked of it by the host. -/
def State.reset : State := State.afterReset Config.maskDepth Config.pixDepth [] []

end Sys2Proof.Machine
end

