-- ==== Sys2Proof/Machine/Ops.lean ====
section
/-! DEFINITION. The operations every command shares: the three memories (10_state.md R40), the register primitives of
00_scope.md R10, errors and their acknowledgement (60_exceptions.md R221 to R223, 10_state.md R31), and the completion of a command
(60_exceptions.md R220). -/

namespace Sys2Proof.Machine

/-! ### A memory of entries -/

/-- The value of entry `a`, or none if it is unwritten (R40). -/
def Memory.read {w : Nat} : Memory w → Nat → Option (BitVec w)
  | [], _ => none
  | (k, v) :: rest, a => if k = a then some v else Memory.read rest a

/-- Entry `a` written with `v`, the indices kept strictly rising (R40: a write makes the entry written). -/
def Memory.write {w : Nat} : Memory w → Nat → BitVec w → Memory w
  | [], a, v => [(a, v)]
  | (k, u) :: rest, a, v =>
    if a < k then (a, v) :: (k, u) :: rest
    else if a = k then (a, v) :: rest
    else (k, u) :: Memory.write rest a v

/-- The indices of a memory, all at least `lo`, strictly rising. -/
def Memory.risingFrom {w : Nat} : Nat → Memory w → Bool
  | _, [] => true
  | lo, (k, _) :: rest => decide (lo ≤ k) && Memory.risingFrom (k + 1) rest

/-- The one canonical form of a memory: indices strictly rising. An unlisted entry is unwritten, which no listed
entry equals, so equal memories are equal lists. -/
def Memory.wf {w : Nat} (m : Memory w) : Bool := Memory.risingFrom 0 m

/-- Every written index is below `n`, the memory's number of entries (R37 to R39). -/
def Memory.below {w : Nat} (n : Nat) : Memory w → Bool
  | [] => true
  | (k, _) :: rest => decide (k < n) && Memory.below n rest

/-! ### The outcome of a command's pseudocode -/

/-- What a piece of a command's pseudocode comes to: a result, `raise CmdError(cause)` (R10, R221), or the model's
stop at an unwritten entry (R40). -/
inductive Run (α : Type) where
  | ok (a : α)
  | raise (cause : ErrCause)
  | stop (f : Fault)

/-- One piece of pseudocode after another; a raise or a stop ends it at once (R221 step 1). -/
def Run.bind {α β : Type} : Run α → (α → Run β) → Run β
  | .ok a, f => f a
  | .raise c, _ => .raise c
  | .stop r, _ => .stop r

/-- `if not ok: raise CmdError(cause)`. -/
def Run.require (ok : Bool) (cause : ErrCause) : Run Unit :=
  if ok then .ok () else .raise cause

/-- `for i in 0 .. n - 1: body`, in rising order. -/
def forUpTo : Nat → (Nat → State → Run State) → State → Run State
  | 0, _, s => .ok s
  | n + 1, body, s => (forUpTo n body s).bind (body n)

/-! ### Memory and result primitives (R10) -/

/-- `LutRead(c)`; an unwritten entry stops the model (R40, U1). -/
def lutRead (c : Nat) (s : State) : Run Byte :=
  match Memory.read s.lut c with
  | some v => .ok v
  | none => .stop (.unwrittenLut c)

/-- `MaskRead(i)`; an unwritten entry stops the model (R40, U1). -/
def maskRead (i : Nat) (s : State) : Run Byte :=
  match Memory.read s.mask i with
  | some v => .ok v
  | none => .stop (.unwrittenMask i)

/-- `PixRead(p)`; an unwritten word stops the model (R40, U1). -/
def pixRead (p : Nat) (s : State) : Run Word :=
  match Memory.read s.pix p with
  | some v => .ok v
  | none => .stop (.unwrittenPix p)

/-- `LutWrite(c, v)`. -/
def lutWrite (c : Nat) (v : Byte) (s : State) : State := { s with lut := Memory.write s.lut c v }

/-- `MaskWrite(i, v)`. -/
def maskWrite (i : Nat) (v : Byte) (s : State) : State := { s with mask := Memory.write s.mask i v }

/-- `PixWrite(p, v)`. -/
def pixWrite (p : Nat) (v : Word) (s : State) : State := { s with pix := Memory.write s.pix p v }

/-- `x[RES0] <- v` (R29). -/
def writeRes0 (v : Word) (s : State) : State := { s with res0 := v }

/-- `x[RES1] <- v` (R29). -/
def writeRes1 (v : Word) (s : State) : State := { s with res1 := v }

/-- `x[RES2] <- v` (R29). -/
def writeRes2 (v : Word) (s : State) : State := { s with res2 := v }

/-- `x[RES3] <- v` (R29). -/
def writeRes3 (v : Word) (s : State) : State := { s with res3 := v }

/-! ### Errors: taking one, acknowledging one -/

/-- The code of a cause in `STATUS.ERRCODE` (R223). -/
def ErrCause.code : ErrCause → BitVec 4
  | .illegal => 1#4
  | .cfg => 2#4
  | .oob => 3#4
  | .bus => 4#4

/-- Steps 2 and 3 of `raise CmdError` (R221) and of `raise BusError` (R222): the first error since `ERR` was last 0 gives the
code, and `ERR` becomes 1. -/
def raiseError (cause : ErrCause) (s : State) : State :=
  { s with errcode := if s.err then s.errcode else cause.code, err := true }

/-- A host write of `v` to `STATUS` (R31): bit 1 clears `DONE`, bit 2 clears `ERR` and `ERRCODE`. -/
def acknowledge (v : Word) (s : State) : State :=
  { s with
    done := s.done && !v.getLsbD 1
    err := s.err && !v.getLsbD 2
    errcode := if v.getLsbD 2 then 0#4 else s.errcode }

/-! ### A command's start and end -/

/-- A host write of `w` to `CMD` starts command `w`: `BUSY <- 1` (R30, R220). -/
def startCommand (w : Word) (s : State) : State := { s with inFlight := some w }

/-- Completion: `DONE <- 1`, `BUSY <- 0` (R220). -/
def complete (s : State) : State := { s with done := true, inFlight := none }

/-- The end of a command whose pseudocode, run from `s`, came to `r`. An error leaves everything but `STATUS` as it was
in `s`, since every raise comes before the first write (R221). -/
def finish (s : State) : Run State → Host.Outcome State Fault Refusal
  | .ok t => .next (complete t)
  | .raise c => .next (complete (raiseError c s))
  | .stop f => .fault f

/-! ### The host's side -/

/-- A host read returns `v` (log 8). -/
def reply (v : Word) (s : State) : State := { s with replies := s.replies ++ [v] }

/-- The events still to come become `events` (log 1). -/
def setInbox (events : List Event) (s : State) : State := { s with inbox := events }

/-- The reset input, with the events after it still to come (R260 to R262): the same state whether or not a
command was in flight. -/
def resetBlock (events : List Event) (s : State) : State :=
  State.afterReset s.maskDepth s.pixDepth events s.replies

end Sys2Proof.Machine
end

