-- ==== Sys2Proof/Machine/Flags.lean ====
section
/-! DEFINITION. Every status flag of the block (10_state.md R36), the status word (R31) and the interrupt output (60_exceptions.md
R230). -/

namespace Sys2Proof.Machine

/-- `STATUS.BUSY` (R31, R41). -/
def State.busy (s : State) : Bool := s.inFlight.isSome

/-- The word a read of `STATUS` returns: `BUSY` [0], `DONE` [1], `ERR` [2], `ERRCODE` [7:4], the rest 0 (R31). -/
def statusWord (s : State) : Word :=
  (0#24 ++ s.errcode) ++ (0#1 ++ (BitVec.ofBool s.err ++ (BitVec.ofBool s.done ++ BitVec.ofBool s.busy)))

/-- `IRQ_EN.DONE_IE` (R32). -/
def State.doneIe (s : State) : Bool := s.irqEn.getLsbD 0

/-- `IRQ_EN.ERR_IE` (R32). -/
def State.errIe (s : State) : Bool := s.irqEn.getLsbD 1

/-- The interrupt output `IRQ`, a level (R42, R230). -/
def State.irq (s : State) : Bool := (s.done && s.doneIe) || (s.err && s.errIe)

/-- The flag `NOT_COVERED` in bit 31 of `RES3`: `(1 - cov) << 31` (R147, R190, R191). -/
def notCovered (cov : Bool) : Word := if cov then 0#32 else 0x80000000#32

/-- The flag "valid Braille code point": 1 iff `cp[31:8]` = 0x28 (R171, R172, R175). -/
def validBraille (cp : Word) : Word := if cp.extractLsb' 8 24 = 0x28#24 then 1#32 else 0#32

end Sys2Proof.Machine
end

