-- ==== Sys2Proof/Machine/Operands.lean ====
section
/-! DEFINITION. How commands read their operands (30_encoding.md R92), the geometry (41_encoder.md R143, R144, 60_exceptions.md R224), and
the one place where a register is read or written by the host (10_state.md R21 to R34). -/

namespace Sys2Proof.Machine

/-! ### Operands -/

/-- `CTRL.INVERT` (R23). -/
def State.invert (s : State) : Bool := s.ctrl.getLsbD 0

/-- `CTRL.CONTRAST_EN` (R23). -/
def State.contrastEn (s : State) : Bool := s.ctrl.getLsbD 1

/-- `sext(x[CONTRAST_AMOUNT][15:0])`, an integer in [-32768, 32767] (R25, R115). -/
def State.amount (s : State) : Int := s.contrastAmount.toInt

/-- `x[ARG0][7:0]`, the rest ignored (R92). -/
def State.arg0Byte (s : State) : Byte := s.arg0.extractLsb' 0 8

/-- `x[ARG0]` as an index. -/
def State.arg0Index (s : State) : Nat := s.arg0.toNat

/-- `x[ARG1]` as an index. -/
def State.arg1Index (s : State) : Nat := s.arg1.toNat

/-! ### Geometry -/

/-- `x[CELL_COLS]`. -/
def State.cols (s : State) : Nat := s.cellCols.toNat

/-- `x[CELL_ROWS]`. -/
def State.rows (s : State) : Nat := s.cellRows.toNat

/-- `x[BUF_W]`. -/
def State.width (s : State) : Nat := s.bufW.toNat

/-- `x[BUF_H]`. -/
def State.height (s : State) : Nat := s.bufH.toNat

/-- `x[BUF_W] * x[BUF_H]`, the number of pixels of the buffer (R39). -/
def State.pixelCount (s : State) : Nat := s.width * s.height

/-- `N`, the cell count (R143). -/
def State.cellCount (s : State) : Nat := s.cols * s.rows

/-- `CW`, the covered width (R143). -/
def State.coveredW (s : State) : Nat := min s.width (Config.dotsPerCellX * s.cols)

/-- `CH`, the covered height (R143). -/
def State.coveredH (s : State) : Nat := min s.height (Config.dotsPerCellY * s.rows)

/-- The pixel (x, y) lies in the covered area (R143). -/
def State.covered (s : State) (x y : Nat) : Bool := decide (x < s.coveredW) && decide (y < s.coveredH)

/-- The flat pixel address of (x, y) (R66). -/
def State.pixelIndex (s : State) (x y : Nat) : Nat := y * s.width + x

/-- The flat cell index of the cell of pixel (x, y) (R144). -/
def State.cellIndex (s : State) (x y : Nat) : Nat :=
  y / Config.dotsPerCellY * s.cols + x / Config.dotsPerCellX

/-- `GEOM_OK`, with the products as exact integers (R224). -/
def State.geomOk (s : State) : Bool :=
  decide (s.cellCount ≤ s.maskDepth) && decide (s.pixelCount ≤ s.pixDepth)

/-! ### Registers, as the host reads and writes them -/

/-- The register at a byte offset, if one is there (R21). -/
def regAt : Nat → Option Reg
  | 0x000 => some .id
  | 0x004 => some .ctrl
  | 0x008 => some .thresh
  | 0x00C => some .contrastAmount
  | 0x010 => some .cellCols
  | 0x014 => some .cellRows
  | 0x018 => some .bufW
  | 0x01C => some .bufH
  | 0x020 => some .arg0
  | 0x024 => some .arg1
  | 0x028 => some .res0
  | 0x02C => some .res1
  | 0x030 => some .res2
  | 0x034 => some .res3
  | 0x038 => some .cmd
  | 0x03C => some .status
  | 0x040 => some .irqEn
  | 0x044 => some .maskDepth
  | 0x048 => some .pixDepth
  | _ => none

/-- The byte offset of a register (R21, column "Offset"). -/
def regOffset : Reg → Nat
  | .id => 0x000
  | .ctrl => 0x004
  | .thresh => 0x008
  | .contrastAmount => 0x00C
  | .cellCols => 0x010
  | .cellRows => 0x014
  | .bufW => 0x018
  | .bufH => 0x01C
  | .arg0 => 0x020
  | .arg1 => 0x024
  | .res0 => 0x028
  | .res1 => 0x02C
  | .res2 => 0x030
  | .res3 => 0x034
  | .cmd => 0x038
  | .status => 0x03C
  | .irqEn => 0x040
  | .maskDepth => 0x044
  | .pixDepth => 0x048

/-- What a host read of a register returns (R22 to R33); reserved bits read 0 (R34). -/
def readReg (r : Reg) (s : State) : Word :=
  match r with
  | .id => Config.idValue
  | .ctrl => s.ctrl.zeroExtend 32
  | .thresh => s.thresh.zeroExtend 32
  | .contrastAmount => s.contrastAmount.signExtend 32
  | .cellCols => s.cellCols.zeroExtend 32
  | .cellRows => s.cellRows.zeroExtend 32
  | .bufW => s.bufW.zeroExtend 32
  | .bufH => s.bufH.zeroExtend 32
  | .arg0 => s.arg0
  | .arg1 => s.arg1
  | .res0 => s.res0
  | .res1 => s.res1
  | .res2 => s.res2
  | .res3 => s.res3
  | .cmd => 0#32
  | .status => statusWord s
  | .irqEn => s.irqEn.zeroExtend 32
  | .maskDepth => BitVec.ofNat 32 s.maskDepth
  | .pixDepth => BitVec.ofNat 32 s.pixDepth

/-- What a host write of `v` to a register does (R22 to R33): implemented bits are kept, the rest ignored, and
a write to a read-only register does nothing (R34). -/
def writeReg (r : Reg) (v : Word) (s : State) : State :=
  match r with
  | .ctrl => { s with ctrl := v.extractLsb' 0 2 }
  | .thresh => { s with thresh := v.extractLsb' 0 8 }
  | .contrastAmount => { s with contrastAmount := v.extractLsb' 0 16 }
  | .cellCols => { s with cellCols := v.extractLsb' 0 16 }
  | .cellRows => { s with cellRows := v.extractLsb' 0 16 }
  | .bufW => { s with bufW := v.extractLsb' 0 16 }
  | .bufH => { s with bufH := v.extractLsb' 0 16 }
  | .arg0 => { s with arg0 := v }
  | .arg1 => { s with arg1 := v }
  | .cmd => startCommand v s
  | .status => acknowledge v s
  | .irqEn => { s with irqEn := v.extractLsb' 0 2 }
  | .id | .res0 | .res1 | .res2 | .res3 | .maskDepth | .pixDepth => s

end Sys2Proof.Machine
end

