-- ==== Sys2Proof/Machine/Bus.lean ====
section
/-! DEFINITION. The host bus (20_memory.md): which offset names what (R60), reads and writes of the idle block (R63 to R71), and
the platform's decoding of the span (R60, R79). -/

namespace Sys2Proof.Machine

/-- `addr` lies in the block's 32 MiB span: its bits [31:25] are those of `BASE` (R60). -/
def inSpan (addr : Word) : Bool := addr.extractLsb' 25 7 == Config.baseTop

/-- The offset at which the platform presents a bus address to the block; none outside the span (R60, log 5). -/
def presentedOffset (addr : Word) : Option Offset :=
  if inSpan addr then some (addr.extractLsb' 0 25) else none

/-- The bus address of an offset (R60). -/
def busAddress (off : Offset) : Word := Config.base + off.zeroExtend 32

/-- What an offset names (the table of R60). A window ends at its memory's depth, and at its region's end. -/
def busTarget (off : Offset) (s : State) : BusTarget :=
  let o := off.toNat
  if o % 4 ≠ 0 then .misaligned
  else if o < 0x1000 then
    match regAt o with
    | some r => .reg r
    | none => .unmapped
  else if o < 0x1400 then .lut ((o - 0x1000) / 4)
  else if o < 0x100000 then .unmapped
  else if o < 0x200000 then
    if (o - 0x100000) / 4 < s.maskDepth then .mask ((o - 0x100000) / 4) else .unmapped
  else if o < 0x1000000 then .unmapped
  else if (o - 0x1000000) / 4 < s.pixDepth then .pix ((o - 0x1000000) / 4)
  else .unmapped

/-- `raise BusError()`: `ERR` and `ERRCODE` only, not `DONE` (R222). -/
def busError (s : State) : State := raiseError .bus s

/-- A host read of an entry of a memory window: its value with zeros above; an unwritten entry stops the model (R67 to R70,
U11). -/
def replyEntry {w : Nat} (entry : Option (BitVec w)) (f : Fault) (s : State) : Host.Outcome State Fault Refusal :=
  match entry with
  | some v => .next (reply (v.zeroExtend 32) s)
  | none => .fault f

/-- `MemRead` at an offset, of the idle block (R63, R64, R67 to R71). -/
def hostRead (off : Offset) (s : State) : Host.Outcome State Fault Refusal :=
  match busTarget off s with
  | .reg r => .next (reply (readReg r s) s)
  | .lut c => replyEntry (Memory.read s.lut c) (.unwrittenLut c) s
  | .mask i => replyEntry (Memory.read s.mask i) (.unwrittenMask i) s
  | .pix p => replyEntry (Memory.read s.pix p) (.unwrittenPix p) s
  | .misaligned => .next (reply 0#32 (busError s))
  | .unmapped => .next (reply 0#32 (busError s))

/-- `MemWrite` of `v` at an offset, of the idle block (R63, R64, R67 to R71). -/
def hostWrite (off : Offset) (v : Word) (s : State) : State :=
  match busTarget off s with
  | .reg r => writeReg r v s
  | .lut c => lutWrite c (v.extractLsb' 0 8) s
  | .mask i => maskWrite i (v.extractLsb' 0 8) s
  | .pix p => pixWrite p v s
  | .misaligned => busError s
  | .unmapped => busError s

/-- A host access to the idle block. -/
def hostAccess (a : Access) (s : State) : Host.Outcome State Fault Refusal :=
  match a with
  | .read off => hostRead off s
  | .write off v => .next (hostWrite off v s)

/-- A host read of `STATUS`, at an idle or a busy block (R31, R73). -/
def pollStatus (s : State) : State := reply (statusWord s) s

end Sys2Proof.Machine
end

