-- ==== Sys2Proof/Machine/Photometric.lean ====
section
/-! DEFINITION. The photometric pixel pipeline (40_photometric.md): its pure functions R110 to R113 and the commands `LUMA`,
`LUTGEN`, `CURVE`, `CONTRAST`, `DECIDE`. -/

namespace Sys2Proof.Machine

/-! ### Channels of a pixel word (R65) -/

/-- Channel R, bits [7:0]. -/
def channelR (w : Word) : Byte := w.extractLsb' 0 8

/-- Channel G, bits [15:8]. -/
def channelG (w : Word) : Byte := w.extractLsb' 8 8

/-- Channel B, bits [23:16]. -/
def channelB (w : Word) : Byte := w.extractLsb' 16 8

/-- Channel A, bits [31:24]. -/
def channelA (w : Word) : Byte := w.extractLsb' 24 8

/-- The pixel word of four channels (R65). -/
def pixelWord (a b g r : Byte) : Word := a ++ b ++ g ++ r

/-! ### Pure functions -/

/-- `clamp(v, lo, hi)` (R9). -/
def clamp (v lo hi : Int) : Int := min (max v lo) hi

/-- `LUMA(w)`, with the explicit clamp the source asks for (R110). -/
def luma (w : Word) : Byte :=
  let s : Int := (channelR w).toNat * 299 + (channelG w).toNat * 587 + (channelB w).toNat * 114
  BitVec.ofInt 8 (clamp (Int.fdiv s 1000) 0 255)

/-- `CURVE_FN(a, c)`; the division is floor division whatever the signs (R111, R9). -/
def curveFn (a : Int) (c : Byte) : Byte :=
  if a = 259 then
    if c.toNat < 128 then 0#8 else if c.toNat = 128 then 128#8 else 255#8
  else
    let numerator : Int := 259 * (a + 255) * ((c.toNat : Int) - 128)
    let denominator : Int := 255 * (259 - a)
    BitVec.ofInt 8 (clamp (Int.fdiv numerator denominator + 128) 0 255)

/-- `CURVE_WORD(w)`: R, G and B each through the LUT, A unchanged (R112). -/
def curveWord (w : Word) (s : State) : Run Word :=
  (lutRead (channelB w).toNat s).bind fun b =>
  (lutRead (channelG w).toNat s).bind fun g =>
  (lutRead (channelR w).toNat s).bind fun r =>
  .ok (pixelWord (channelA w) b g r)

/-- `DOT(l, t, inv)`: with `inv`, both sides are inverted before the comparison (R113). -/
def dot (l t : Byte) (inv : Bool) : Bool :=
  if inv then decide (255 - t.toNat ≤ 255 - l.toNat) else decide (t.toNat ≤ l.toNat)

/-- A dot decision as a 32-bit result, 1 (on) or 0 (off). -/
def boolWord (b : Bool) : Word := if b then 1#32 else 0#32

/-- The dot decision of a pixel word at the current `THRESH` and `CTRL.INVERT` (R119). -/
def State.dotOn (s : State) (w : Word) : Bool := dot (luma w) s.thresh s.invert

/-! ### Passes -/

/-- One turn of `LUTGEN`'s loop: `LutWrite(c, CURVE_FN(a, c))` (R115). -/
def lutgenEntry (a : Int) (c : Nat) (s : State) : Run State :=
  .ok (lutWrite c (curveFn a (BitVec.ofNat 8 c)) s)

/-- One turn of `CONTRAST`'s loop: `PixWrite(p, CURVE_WORD(PixRead(p)))` (R117). -/
def contrastPixel (p : Nat) (s : State) : Run State :=
  (pixRead p s).bind fun w =>
  (curveWord w s).bind fun w' =>
  .ok (pixWrite p w' s)

/-- The body of `CONTRAST`, over the entire pixel buffer (R117, R148). -/
def contrastBody (s : State) : Run State := forUpTo s.pixelCount contrastPixel s

/-! ### Commands -/

/-- `LUMA` (R114). -/
def execLuma (s : State) : Host.Outcome State Fault Refusal :=
  finish s (.ok (writeRes0 ((luma s.arg0).zeroExtend 32) s))

/-- `LUTGEN` (R115). -/
def execLutgen (s : State) : Host.Outcome State Fault Refusal :=
  finish s (forUpTo Config.lutSize (lutgenEntry s.amount) s)

/-- `CURVE` (R116). -/
def execCurve (s : State) : Host.Outcome State Fault Refusal :=
  finish s ((curveWord s.arg0 s).bind fun w => .ok (writeRes0 w s))

/-- `CONTRAST` (R117). -/
def execContrast (s : State) : Host.Outcome State Fault Refusal :=
  finish s ((Run.require s.geomOk .cfg).bind fun _ => contrastBody s)

/-- `DECIDE` (R118). -/
def execDecide (s : State) : Host.Outcome State Fault Refusal :=
  finish s (.ok (writeRes0 (boolWord (dot s.arg0Byte s.thresh s.invert)) s))

end Sys2Proof.Machine
end

