-- ==== Sys2Proof/Machine/Encoder.lean ====
section
/-! DEFINITION. The Braille dot-matrix bit-packer (41_encoder.md): bit layouts R140 to R142 and the commands `CLEAR`,
`ENCODE`, `ENCPIX`, `RENDER`, `GLYPH_ENC`, `GLYPH_CELL`. -/

namespace Sys2Proof.Machine

/-! ### Bit layouts -/

/-- `BITIDX(x, y)`, the mask bit of a pixel (R140). -/
def bitIdx (x y : Nat) : Nat := x % 2 + 2 * (y % 4)

/-- `1 << BITIDX(x, y)` (R140). -/
def dotBit (x y : Nat) : Byte := 1#8 <<< bitIdx x y

/-- `GB`: the glyph bit of each mask bit (R142). -/
def glyphBitTable : List Nat := [0, 3, 1, 4, 2, 5, 6, 7]

/-- The OR over k of `v[k0 + k] << table[k]`. -/
def remapBits (v : Byte) : Nat → List Nat → Byte
  | _, [] => 0#8
  | k, d :: rest => (if v.getLsbD k then 1#8 <<< d else 0#8) ||| remapBits v (k + 1) rest

/-- `GLYPH(m)`, the glyph bits of a mask (R142). -/
def glyph (m : Byte) : Byte := remapBits m 0 glyphBitTable

/-- `CP(m)`, the code point of a mask (R142). -/
def codePoint (m : Byte) : Word := 0x2800#32 ||| (glyph m).zeroExtend 32

/-! ### Bodies -/

/-- One turn of `CLEAR`'s loop (R145). -/
def clearCell (i : Nat) (s : State) : Run State := .ok (maskWrite i 0#8 s)

/-- The body of `CLEAR` (R145, R148). -/
def clearBody (s : State) : Run State := forUpTo s.cellCount clearCell s

/-- `MaskWrite(i, MaskRead(i) | (1 << BITIDX(x, y)))` for the cell `i` of (x, y) (R146, R147). -/
def setDot (x y : Nat) (s : State) : Run State :=
  (maskRead (s.cellIndex x y) s).bind fun m =>
  .ok (maskWrite (s.cellIndex x y) (m ||| dotBit x y) s)

/-- One turn of `ENCODE`'s inner loop (R146). -/
def encodePixel (y x : Nat) (s : State) : Run State :=
  (pixRead (s.pixelIndex x y) s).bind fun w =>
  if s.dotOn w then setDot x y s else .ok s

/-- One row of `ENCODE` (R146). -/
def encodeRow (y : Nat) (s : State) : Run State := forUpTo s.coveredW (encodePixel y) s

/-- The body of `ENCODE`, row-major over the covered area (R146, R148). -/
def encodeBody (s : State) : Run State := forUpTo s.coveredH encodeRow s

/-- The body of `RENDER`: clear, contrast if enabled, encode (R119, R148). -/
def renderBody (s : State) : Run State :=
  (clearBody s).bind fun s1 =>
  (if s.contrastEn then contrastBody s1 else .ok s1).bind encodeBody

/-- The four results of `ENCPIX` (R147). -/
def encpixResults (l : Byte) (on cov : Bool) (x y i : Nat) (s : State) : State :=
  writeRes3 (BitVec.ofNat 32 (bitIdx x y) ||| notCovered cov)
    (writeRes2 (BitVec.ofNat 32 i)
      (writeRes1 (boolWord on)
        (writeRes0 (l.zeroExtend 32) s)))

/-- `ENCPIX` after its checks, for the pixel (x, y) at flat address `a` (R147). -/
def encpixBody (a x y : Nat) (s : State) : Run State :=
  (pixRead a s).bind fun w =>
  (if s.covered x y && s.dotOn w then setDot x y s else .ok s).bind fun t =>
  .ok (encpixResults (luma w) (s.dotOn w) (s.covered x y) x y (s.cellIndex x y) t)

/-! ### Commands -/

/-- `CLEAR` (R145). -/
def execClear (s : State) : Host.Outcome State Fault Refusal :=
  finish s ((Run.require s.geomOk .cfg).bind fun _ => clearBody s)

/-- `ENCODE` (R146). -/
def execEncode (s : State) : Host.Outcome State Fault Refusal :=
  finish s ((Run.require s.geomOk .cfg).bind fun _ => encodeBody s)

/-- `ENCPIX` (R147). -/
def execEncpix (s : State) : Host.Outcome State Fault Refusal :=
  finish s
    ((Run.require s.geomOk .cfg).bind fun _ =>
     (Run.require (decide (s.arg0Index < s.pixelCount)) .oob).bind fun _ =>
     encpixBody s.arg0Index (s.arg0Index % s.width) (s.arg0Index / s.width) s)

/-- `RENDER` (R148). -/
def execRender (s : State) : Host.Outcome State Fault Refusal :=
  finish s ((Run.require s.geomOk .cfg).bind fun _ => renderBody s)

/-- `GLYPH_ENC` (R149). -/
def execGlyphEnc (s : State) : Host.Outcome State Fault Refusal :=
  finish s (.ok (writeRes0 (codePoint s.arg0Byte) s))

/-- `GLYPH_CELL` (R150). -/
def execGlyphCell (s : State) : Host.Outcome State Fault Refusal :=
  finish s
    ((Run.require s.geomOk .cfg).bind fun _ =>
     (Run.require (decide (s.arg0Index < s.cellCount)) .oob).bind fun _ =>
     (maskRead s.arg0Index s).bind fun m =>
     .ok (writeRes1 (m.zeroExtend 32) (writeRes0 (codePoint m) s)))

end Sys2Proof.Machine
end

