-- ==== Sys2Proof/Machine/Container.lean ====
section
/-! DEFINITION. The grid-index calculator and the container's bounds-checked luminance query (43_container.md): `GRID_PIX`,
`GRID_CELL`, `LUMAXY`. -/

namespace Sys2Proof.Machine

/-- The four results of `GRID_PIX` for the pixel (x, y) (R190). -/
def gridPixResults (x y : Nat) (s : State) : State :=
  writeRes3 (BitVec.ofNat 32 (bitIdx x y) ||| notCovered (s.covered x y))
    (writeRes2 (BitVec.ofNat 32 (s.cellIndex x y))
      (writeRes1 (BitVec.ofNat 32 (y / Config.dotsPerCellY))
        (writeRes0 (BitVec.ofNat 32 (x / Config.dotsPerCellX)) s)))

/-- The four results of `GRID_CELL` for the cell `i` at (`col`, `row`) (R191). -/
def gridCellResults (i col row : Nat) (s : State) : State :=
  writeRes3 (notCovered (decide (i < s.cellCount)))
    (writeRes2 (BitVec.ofNat 32 (4 * row * s.width + 2 * col))
      (writeRes1 (BitVec.ofNat 32 row)
        (writeRes0 (BitVec.ofNat 32 col) s)))

/-- `GRID_PIX` (R190), with its divisor guard (R225). -/
def execGridPix (s : State) : Host.Outcome State Fault Refusal :=
  finish s
    ((Run.require (decide (s.width ≠ 0)) .cfg).bind fun _ =>
     .ok (gridPixResults (s.arg0Index % s.width) (s.arg0Index / s.width) s))

/-- `GRID_CELL` (R191), with its divisor guard (R225). -/
def execGridCell (s : State) : Host.Outcome State Fault Refusal :=
  finish s
    ((Run.require (decide (s.cols ≠ 0)) .cfg).bind fun _ =>
     .ok (gridCellResults s.arg0Index (s.arg0Index % s.cols) (s.arg0Index / s.cols) s))

/-- `LUMAXY` (R192). -/
def execLumaxy (s : State) : Host.Outcome State Fault Refusal :=
  finish s
    ((Run.require s.geomOk .cfg).bind fun _ =>
     (Run.require (decide (s.arg0Index < s.width) && decide (s.arg1Index < s.height)) .oob).bind fun _ =>
     (pixRead (s.pixelIndex s.arg0Index s.arg1Index) s).bind fun w =>
     .ok (writeRes0 ((luma w).zeroExtend 32) s))

end Sys2Proof.Machine
end

