-- ==== Sys2Proof/Machine/Control.lean ====
section
/-! DEFINITION. The control command `NOP` (44_control.md), and what an ILLEGAL command word does (30_encoding.md R91, R94). -/

namespace Sys2Proof.Machine

/-- `NOP`: nothing but completion (R210). -/
def execNop (s : State) : Host.Outcome State Fault Refusal := finish s (.ok s)

/-- A word that decodes to ILLEGAL: `raise CmdError(ILLEGAL)` and no other effect (R91, R94). -/
def runIllegal (s : State) : Host.Outcome State Fault Refusal := finish s (.raise .illegal)

end Sys2Proof.Machine
end

