-- ==== Sys2Proof/Machine/Unpacker.lean ====
section
/-! DEFINITION. The per-cell unpacker (42_decoder.md): the inverse remap R170, the two pixel words R176, and the commands
`GLYPH_DEC`, `SETGLYPH`, `UNPACK`, `UNPACKALL`. -/

namespace Sys2Proof.Machine

/-- `GI`: the mask bit of each glyph bit (R170). -/
def maskBitTable : List Nat := [0, 2, 4, 1, 3, 5, 6, 7]

/-- `UNGLYPH(g)`, the mask of glyph bits (R170). -/
def unglyph (g : Byte) : Byte := remapBits g 0 maskBitTable

/-- The mask of a code point: its low 8 bits are the glyph bits, whatever the others (R175). -/
def maskOfCodePoint (cp : Word) : Byte := unglyph (cp.extractLsb' 0 8)

/-- `WHITE`, a dot that is on (R176). -/
def white : Word := 0xFFFFFFFF#32

/-- `BLACK`, a dot that is off (R176). -/
def black : Word := 0xFF000000#32

/-- The pixel word of dot (column `dx`, row `dy`) of mask `m` (R173, R176). -/
def dotPixel (m : Byte) (dx dy : Nat) : Word := if m.getLsbD (dx + 2 * dy) then white else black

/-- One turn of `UNPACK`'s inner loop, for the cell at (`col`, `row`); a pixel outside the buffer is skipped (R173). -/
def unpackDot (m : Byte) (col row dy dx : Nat) (s : State) : Run State :=
  if decide (2 * col + dx < s.width) && decide (4 * row + dy < s.height) then
    .ok (pixWrite (s.pixelIndex (2 * col + dx) (4 * row + dy)) (dotPixel m dx dy) s)
  else .ok s

/-- One row of a cell's 2×4 block (R173). -/
def unpackRow (m : Byte) (col row dy : Nat) (s : State) : Run State :=
  forUpTo Config.dotsPerCellX (unpackDot m col row dy) s

/-- `UNPACK` of cell `i` after its checks (R173, R174). -/
def unpackCell (i : Nat) (s : State) : Run State :=
  (maskRead i s).bind fun m =>
  forUpTo Config.dotsPerCellY (unpackRow m (i % s.cols) (i / s.cols)) s

/-! ### Commands -/

/-- `GLYPH_DEC` (R171). -/
def execGlyphDec (s : State) : Host.Outcome State Fault Refusal :=
  finish s (.ok (writeRes1 (validBraille s.arg0) (writeRes0 ((maskOfCodePoint s.arg0).zeroExtend 32) s)))

/-- `SETGLYPH` (R172). -/
def execSetglyph (s : State) : Host.Outcome State Fault Refusal :=
  finish s
    ((Run.require s.geomOk .cfg).bind fun _ =>
     (Run.require (decide (s.arg0Index < s.cellCount)) .oob).bind fun _ =>
     .ok (writeRes1 (validBraille s.arg1)
       (writeRes0 ((maskOfCodePoint s.arg1).zeroExtend 32)
         (maskWrite s.arg0Index (maskOfCodePoint s.arg1) s))))

/-- `UNPACK` (R173). -/
def execUnpack (s : State) : Host.Outcome State Fault Refusal :=
  finish s
    ((Run.require s.geomOk .cfg).bind fun _ =>
     (Run.require (decide (s.arg0Index < s.cellCount)) .oob).bind fun _ =>
     unpackCell s.arg0Index s)

/-- `UNPACKALL` (R174). -/
def execUnpackall (s : State) : Host.Outcome State Fault Refusal :=
  finish s ((Run.require s.geomOk .cfg).bind fun _ => forUpTo s.cellCount unpackCell s)

end Sys2Proof.Machine
end

