-- ==== Sys2Proof/Machine/Dispatch.lean ====
section
/-! DEFINITION. The meaning of each command: one arm per constructor of Instr (30_encoding.md R93). -/

namespace Sys2Proof.Machine

-- What the engine does with a decoded command, from the start of its pseudocode to its completion (60_exceptions.md R220).
def exec (i : Instr) (s : State) : Host.Outcome State Fault Refusal :=
  match i with
  | .nop => Sys2Proof.Machine.execNop s
  | .clear => Sys2Proof.Machine.execClear s
  | .lutgen => Sys2Proof.Machine.execLutgen s
  | .contrast => Sys2Proof.Machine.execContrast s
  | .encode => Sys2Proof.Machine.execEncode s
  | .render => Sys2Proof.Machine.execRender s
  | .encpix => Sys2Proof.Machine.execEncpix s
  | .luma => Sys2Proof.Machine.execLuma s
  | .curve => Sys2Proof.Machine.execCurve s
  | .decide => Sys2Proof.Machine.execDecide s
  | .lumaxy => Sys2Proof.Machine.execLumaxy s
  | .glyphEnc => Sys2Proof.Machine.execGlyphEnc s
  | .glyphCell => Sys2Proof.Machine.execGlyphCell s
  | .glyphDec => Sys2Proof.Machine.execGlyphDec s
  | .setglyph => Sys2Proof.Machine.execSetglyph s
  | .unpack => Sys2Proof.Machine.execUnpack s
  | .unpackall => Sys2Proof.Machine.execUnpackall s
  | .gridPix => Sys2Proof.Machine.execGridPix s
  | .gridCell => Sys2Proof.Machine.execGridCell s

end Sys2Proof.Machine
end

