-- ==== Sys2Proof/Machine/Engine.lean ====
section
/-! DEFINITION. The command engine beside the host (00_scope.md R13): running the command in flight (60_exceptions.md R220), and whose
move comes next (10_state.md R41, 20_memory.md R72, R73). -/

namespace Sys2Proof.Machine

/-- The engine runs the command word `w` to its completion (R91, R220). -/
def runCommand (w : Word) (s : State) : Host.Outcome State Fault Refusal :=
  match decode w with
  | .ok i => exec i s
  | .error _ => runIllegal s

/-- One event at the idle block. With nothing left to do it keeps all its state (R237). -/
def idleTurn (s : State) : Host.Outcome State Fault Refusal :=
  match s.inbox with
  | [] => .next s
  | .host a :: rest => hostAccess a (setInbox rest s)
  | .poll :: rest => .next (pollStatus (setInbox rest s))
  | .engine :: rest => .next (setInbox rest s)
  | .reset :: rest => .next (resetBlock rest s)

/-- One event while the command `w` is in flight: an early read of `STATUS` completes at once, a reset abandons the command
(R262), and every other access waits in `inbox` until the command has completed (R41, R73). -/
def busyTurn (w : Word) (s : State) : Host.Outcome State Fault Refusal :=
  match s.inbox with
  | [] => runCommand w s
  | .host _ :: _ => runCommand w s
  | .poll :: rest => .next (pollStatus (setInbox rest s))
  | .engine :: rest => runCommand w (setInbox rest s)
  | .reset :: rest => .next (resetBlock rest s)

/-- The block's next move. -/
def advance (s : State) : Host.Outcome State Fault Refusal :=
  match s.inFlight with
  | none => idleTurn s
  | some w => busyTurn w s

/-- `s` with the command `w` accepted and the engine's turn next. -/
def acceptCommand (w : Word) (s : State) : State := setInbox (.engine :: s.inbox) (startCommand w s)

end Sys2Proof.Machine
end

