-- ==== Sys2Proof/Machine/Step.lean ====
section
/-! DEFINITION. One step of the machine, and how an instruction is placed where the next step runs it. -/

namespace Sys2Proof.Machine

/-- One step: the next move at the block's boundary (Machine/Engine.lean). -/
def step (s : State) : Host.Outcome State Fault Refusal := advance s

/-- The command word has been accepted at `CMD` and the engine moves next, so the very next step decodes and runs
it (R30, R220; log 1). -/
def State.withFetchWord (s : State) (nbits w : Nat) : State := acceptCommand (commandWordOf nbits w) s

end Sys2Proof.Machine
end

