-- ==== Sys2Proof/Machine/HostProgram.lean ====
section
/-! DEFINITION. Host programs (30_encoding.md R100) and pseudo-instructions (R101), as the events they bring to the block. -/

namespace Sys2Proof.Machine

/-! ### Lines -/

/-- `<loc>` of R100. -/
inductive Loc where
  | reg (r : Reg)
  | lut (c : Nat)
  | mask (i : Nat)
  | pix (p : Nat)
  | raw (off : Nat)
  deriving DecidableEq, Repr

/-- What a line comes to after the expansions of R101: one bus access (R100), or the loop of `WAITIDLE`. -/
inductive BusLine where
  | wr (loc : Loc) (v : Word)
  | rd (loc : Loc)
  | untilIdle
  deriving DecidableEq, Repr

/-- A line of a host program (R100), or a pseudo-instruction (R101). -/
inductive HostLine where
  | wr (loc : Loc) (v : Word)
  | rd (loc : Loc)
  | cmd (i : Instr)
  | setpix (x y : Nat) (v : Word)
  | rdpix (x y : Nat)
  | setmask (i : Nat) (v : Word)
  | rdmask (i : Nat)
  | setlut (c : Nat) (v : Word)
  | clrstatus
  | waitidle
  | geom (cols rows w h : Word)
  deriving DecidableEq, Repr

/-- `off(<loc>)` (R100). -/
def Loc.offset : Loc → Nat
  | .reg r => regOffset r
  | .lut c => 0x1000 + 4 * c
  | .mask i => 0x100000 + 4 * i
  | .pix p => 0x1000000 + 4 * p
  | .raw off => off

/-- `BASE + off(<loc>)` as a 32-bit bus address (R6, R100). -/
def Loc.address (loc : Loc) : Word := Config.base + BitVec.ofNat 32 loc.offset

/-! ### Expansion (R101) -/

/-- The expansion of a line, where `w` is the value the program last wrote to `BUF_W` (R101). -/
def HostLine.expand (w : Nat) : HostLine → List BusLine
  | .wr loc v => [.wr loc v]
  | .rd loc => [.rd loc]
  | .cmd i => [.wr (.reg .cmd) (encode i)]
  | .setpix x y v => [.wr (.pix (y * w + x)) v]
  | .rdpix x y => [.rd (.pix (y * w + x))]
  | .setmask i v => [.wr (.mask i) v]
  | .rdmask i => [.rd (.mask i)]
  | .setlut c v => [.wr (.lut c) v]
  | .clrstatus => [.wr (.reg .status) 0x00000006#32]
  | .waitidle => [.untilIdle]
  | .geom cols rows bw bh =>
    [.wr (.reg .cellCols) cols, .wr (.reg .cellRows) rows, .wr (.reg .bufW) bw, .wr (.reg .bufH) bh]

/-- The value the program last wrote to `BUF_W`, after an access (R101). -/
def BusLine.widthAfter (w : Nat) : BusLine → Nat
  | .wr loc v => if loc.offset = regOffset .bufW then v.toNat else w
  | .rd _ => w
  | .untilIdle => w

/-- A host program with its pseudo-instructions expanded; `w` is the value last written to `BUF_W` before it (R101). -/
def expandProgram : Nat → List HostLine → List BusLine
  | _, [] => []
  | w, l :: rest => l.expand w ++ expandProgram ((l.expand w).foldl BusLine.widthAfter w) rest

/-! ### The accesses the block sees -/

/-- The offset at which the platform presents a line's access. DESIGN CHOICE (log 15): a line whose offset is 2^25 or more lies
outside the span, which R60 keeps from the block, so it brings the block no access at all. -/
def Loc.presented (loc : Loc) : Option Offset :=
  if loc.offset < 2 ^ 25 then some (BitVec.ofNat 25 loc.offset) else none

/-- How long the commands of a program take (R280, U5): how many reads of `STATUS` still find the command in flight before it
completes, and the same number for each command the program starts later, 0 where the list ends. DESIGN CHOICE (log 16): any
numbers may be given; R41 admits every finite one. -/
structure Schedule where
  early : Nat
  later : List Nat
  deriving DecidableEq, Repr

/-- The schedule once an access other than an early read of `STATUS` has taken effect: no command is in flight any more, since such
an access waits for it (R73), but for one that the access itself starts (R30). -/
def Schedule.afterAccess (p : Schedule) : Access → Schedule
  | .read _ => { p with early := 0 }
  | .write off _ =>
    if off.toNat = regOffset .cmd then { early := p.later.headD 0, later := p.later.tail } else { p with early := 0 }

/-- The events of one presented access, and the schedule after it: a read of `STATUS` that the schedule lets find the command in
flight is an early one (R73, log 16). -/
def accessEvents (p : Schedule) (a : Access) : List Event × Schedule :=
  match a with
  | .read off =>
    if off.toNat = regOffset .status ∧ p.early ≠ 0 then ([.poll], { p with early := p.early - 1 })
    else ([.host a], p.afterAccess a)
  | .write _ _ => ([.host a], p.afterAccess a)

/-- `WAITIDLE`: reads of `STATUS` until bit 0 of the value read is 0 (R101). Those the schedule lets find the command in flight read
1 in bit 0, and the next one reads 0; at the idle block the first one does. -/
def waitIdleEvents (p : Schedule) : List Event × Schedule :=
  (List.replicate p.early .poll ++ [.host (.read (BitVec.ofNat 25 (regOffset .status)))], { p with early := 0 })

/-- The events of a line, and the schedule after it; a line outside the span brings none (log 15). -/
def BusLine.events (p : Schedule) : BusLine → List Event × Schedule
  | .wr loc v =>
    match loc.presented with
    | some off => accessEvents p (.write off v)
    | none => ([], p)
  | .rd loc =>
    match loc.presented with
    | some off => accessEvents p (.read off)
    | none => ([], p)
  | .untilIdle => waitIdleEvents p

/-- The events of expanded lines, in program order (R74, R100). -/
def busLineEvents : Schedule → List BusLine → List Event
  | _, [] => []
  | p, l :: rest => (l.events p).1 ++ busLineEvents (l.events p).2 rest

/-- The events a host program brings to the block, for commands that take as long as `p` says; `w` is the value last written to
`BUF_W` before it (R100, R101). -/
def programEvents (w : Nat) (p : Schedule) (lines : List HostLine) : List Event :=
  busLineEvents p (expandProgram w lines)

end Sys2Proof.Machine
end

