-- ==== Sys2Proof/Safety.lean ====
section
/-! DEFINITION. What counts as a sound state, which memory entries a command needs written to run without the model's stop
(10_state.md R40), and what a host prepares before a render or a decode (70_reset_and_hazards.md R265, R266). -/

namespace Sys2Proof.Machine

/-! ### Sound states -/

/-- What holds of every state the block can be in: the memories are canonical and hold nothing beyond their
sizes (R37 to R39), `ERRCODE` is a code of R223 and is 0 exactly while `ERR` is 0 (R31, R223, U8), and the depths
are within R6. -/
structure Sound (s : State) : Prop where
  lutCanonical : Memory.wf s.lut = true
  maskCanonical : Memory.wf s.mask = true
  pixCanonical : Memory.wf s.pix = true
  lutInRange : Memory.below Config.lutSize s.lut = true
  maskInRange : Memory.below s.maskDepth s.mask = true
  pixInRange : Memory.below s.pixDepth s.pix = true
  codeAssigned : s.errcode.toNat ≤ 4
  codeIffError : s.err = true ↔ s.errcode ≠ 0#4
  depthsInBounds : depthsWellFormed s.maskDepth s.pixDepth = true

/-! ### What commands read -/

/-- `CURVE_WORD(w)` as a value, or none if a LUT entry it needs is unwritten (R112, R40). -/
def State.curved (s : State) (w : Word) : Option Word :=
  (Memory.read s.lut (channelB w).toNat).bind fun b =>
  (Memory.read s.lut (channelG w).toNat).bind fun g =>
  (Memory.read s.lut (channelR w).toNat).map fun r =>
  pixelWord (channelA w) b g r

/-- The pixel (x, y) is written and its dot is on (R113, R146). -/
def State.dotAt (s : State) (x y : Nat) : Bool :=
  match Memory.read s.pix (s.pixelIndex x y) with
  | some w => s.dotOn w
  | none => false

/-- Every pixel of the covered area is written (R265 step 3). -/
abbrev State.coveredWritten (s : State) : Prop :=
  ∀ y, y < s.coveredH → ∀ x, x < s.coveredW → (Memory.read s.pix (s.pixelIndex x y)).isSome = true

/-- Every mask entry that `ENCODE` would OR a dot into is written (R40, R146). -/
abbrev State.dotsWritable (s : State) : Prop :=
  ∀ y, y < s.coveredH → ∀ x, x < s.coveredW →
    s.dotAt x y = true → (Memory.read s.mask (s.cellIndex x y)).isSome = true

/-- Every mask entry of the grid is written. -/
abbrev State.gridWritten (s : State) : Prop :=
  ∀ i, i < s.cellCount → (Memory.read s.mask i).isSome = true

/-- Every pixel of the buffer is written, and so is every LUT entry its channels select (R40, R117). -/
abbrev State.contrastReady (s : State) : Prop :=
  ∀ p, p < s.pixelCount → ((Memory.read s.pix p).bind s.curved).isSome = true

/-- What `RENDER` needs written (R40, R148, R265 steps 3 and 4). -/
abbrev State.renderReady (s : State) : Prop :=
  if s.contrastEn = true then s.contrastReady else s.coveredWritten

/-- The boot requirements of a render that concern the block's own state: a geometry with `GEOM_OK`, and the memory
entries a `RENDER` reads (R265). -/
abbrev State.bootedForRender (s : State) : Prop := s.geomOk = true ∧ s.renderReady

/-- The boot requirements of a decode: a geometry with `GEOM_OK`, and a mask in every cell (R266). -/
abbrev State.bootedForDecode (s : State) : Prop := s.geomOk = true ∧ s.gridWritten

/-- The command runs to its completion from `s`. -/
def CompletesFrom (i : Instr) (s : State) : Prop := ∃ t, exec i s = .next t

/-- What a command that raises the error of code `code` leaves: `STATUS` says so and nothing else has changed; the first
code since `ERR` was last 0 stays (R220, R221, R223). -/
def State.reported (s : State) (code : BitVec 4) : State :=
  { s with errcode := if s.err = true then s.errcode else code, err := true, done := true, inFlight := none }

/-! ### What a render decides -/

/-- The dot of bit `b` of cell `i`: its pixel is column `b mod 2`, row `b div 2` of the cell's 2×4 block (R140,
R144), counted only inside the covered area (R143). -/
def State.cellDot (s : State) (i b : Nat) : Bool :=
  s.covered (2 * (i % s.cols) + b % 2) (4 * (i / s.cols) + b / 2) &&
    s.dotAt (2 * (i % s.cols) + b % 2) (4 * (i / s.cols) + b / 2)

/-- The byte whose bit `b`, for `b` below `n`, is `f b`. -/
def packBits (f : Nat → Bool) : Nat → Byte
  | 0 => 0#8
  | n + 1 => packBits f n ||| (if f n then 1#8 <<< n else 0#8)

/-- The dots of cell `i` that the covered pixels decide, as a mask (R146). -/
def State.cellDots (s : State) (i : Nat) : Byte := packBits (s.cellDot i) 8

/-- The pixel is pure black or pure white in R, G and B (R177). -/
def pureTone (w : Word) : Bool := w.extractLsb' 0 24 == 0x000000#24 || w.extractLsb' 0 24 == 0xFFFFFF#24

/-- Every covered pixel is written and pure black or pure white (R177). -/
abbrev State.coveredPure (s : State) : Prop :=
  ∀ y, y < s.coveredH → ∀ x, x < s.coveredW →
    (Memory.read s.pix (s.pixelIndex x y)).any pureTone = true

end Sys2Proof.Machine
end

