-- ==== Sys2Proof/Certificates/Slice0/Obligations.lean ====
section
/-! DEFINITION. The statements for the provers. Each docstring names the rule of spec/ it formalises. -/

section
open Sys2Proof Sys2Proof.Machine

/-! ### Decoding (30_encoding.md) -/

/-- Words written out from the encodings of R93 decode to the commands they stand for; one word a family. -/
def Obligations.SampleWordsDecode : Prop :=
  decode 0x00000000#32 = .ok .nop ∧ decode 0x00000004#32 = .ok .encode ∧ decode 0x00000010#32 = .ok .luma ∧
  decode 0x00000021#32 = .ok .glyphCell ∧ decode 0x0000002A#32 = .ok .unpack ∧ decode 0x00000031#32 = .ok .gridCell

/-- Decode and encode agree in both directions: every command's word decodes to it, and a word that decodes to a command is
that command's one word (R90, R93, R95). -/
def Obligations.DecodeAndEncodeAgree : Prop :=
  (∀ i : Instr, i.wellFormed = true → decode (encode i) = .ok i) ∧
  ∀ (w : Word) (i : Instr), decode w = .ok i → w = encode i

/-- R91: `decode(w)` is ILLEGAL when `w[31:8]` is not 0 or `w[7:0]` is not in the map (the ranges of R94), and else the command
of the map; an ILLEGAL word in flight does nothing but raise `ILLEGAL`, before any other check. -/
def Obligations.IllegalWordOnlyReports : Prop :=
  (∀ i : Instr, decode (encode i) = .ok i) ∧
  ∀ (w : Word) (o : Nat), o = (w.extractLsb' 0 8).toNat →
    (w.extractLsb' 8 24 ≠ 0#24 ∨ (0x07 ≤ o ∧ o ≤ 0x0F) ∨ (0x14 ≤ o ∧ o ≤ 0x1F) ∨ (0x22 ≤ o ∧ o ≤ 0x27) ∨
      (0x2C ≤ o ∧ o ≤ 0x2F) ∨ 0x32 ≤ o) →
    (∃ e, decode w = .error e) ∧ (∀ i : Instr, w ≠ encode i) ∧
    ∀ s : State, s.inFlight = some w →
      (s.inbox = [] → step s = .next (s.reported 1#4)) ∧
      (∀ a rest, s.inbox = .host a :: rest → step s = .next (s.reported 1#4)) ∧
      (∀ rest, s.inbox = .engine :: rest → step s = .next (State.reported { s with inbox := rest } 1#4))

/-! ### Steps (10_state.md R41, 20_memory.md R73, 60_exceptions.md R220) -/

/-- A step runs the decoded command: with the word of `i` in flight and no early `STATUS` read or reset before it, the step is
`exec i` (R91, R220). An access that waits stays first in the inbox (R73); the engine's turn is used up. The schedule as a list
of events is the model's (logs 1, 2). -/
def Obligations.StepRunsDecodedCommand : Prop :=
  ∀ (s : State) (w : Word) (i : Instr), s.inFlight = some w → decode w = .ok i →
    (s.inbox = [] → step s = exec i s) ∧
    (∀ a rest, s.inbox = .host a :: rest → step s = exec i s) ∧
    (∀ rest, s.inbox = .engine :: rest → step s = exec i { s with inbox := rest })

/-- A command placed by `withFetchWord` is the next thing that runs; placing stands for an accepted `CMD` write (log 1). -/
def Obligations.PlacedCommandRunsNext : Prop :=
  ∀ (s : State) (n : Nat) (i : Instr), decodeTableWord 32 n = some i →
    step (s.withFetchWord 32 n) = exec i { s with inFlight := some (BitVec.ofNat 32 (n % 2 ^ 32)) }

/-- R30, R220: a host write of `w` to `CMD` (offset 0x038) of the idle block starts command `w` and changes nothing else; a read
of `CMD` returns 0. -/
def Obligations.CmdWriteStartsCommand : Prop :=
  ∀ (s : State) (w : Word) (rest : List Event), s.inFlight = none →
    (s.inbox = .host (.write 0x038#25 w) :: rest →
      step s = .next { s with inFlight := some w, inbox := rest } ∧
      (statusWord { s with inFlight := some w }).getLsbD 0 = true) ∧
    (s.inbox = .host (.read 0x038#25) :: rest →
      step s = .next { s with inbox := rest, replies := s.replies ++ [0#32] })

/-- R41, R73, R280: any number of `STATUS` reads between the `CMD` write and completion return `BUSY` = 1 and change nothing
else, and then the command completes. That the rest of those words is as before the command is the model's deduction (log 3). -/
def Obligations.BusyPollsThenCompletes : Prop :=
  ∀ (n : Nat) (s : State) (w : Word) (i : Instr) (rest : List Event),
    s.inFlight = some w → decode w = .ok i → s.inbox = List.replicate n .poll ++ .engine :: rest →
    (statusWord s).getLsbD 0 = true ∧
    Host.Core.run Sys2Proof.core (n + 1) s =
      exec i { s with inbox := rest, replies := s.replies ++ List.replicate n (statusWord s) }

/-- R101: `WAITIDLE` reads `STATUS` until bit 0 is 0: every read that finds the command in flight returns 1 there, and the last
one 0; at the idle block the first read returns 0. How many reads find it in flight is the schedule's (log 16), and that the
rest of their words is as before the command is the model's deduction (log 3). -/
def Obligations.WaitidleReadsUntilIdle : Prop :=
  ∀ (s t : State) (p : Schedule) (rest : List Event),
    (∀ w, s.inFlight = some w → s.inbox = (waitIdleEvents p).1 ++ rest →
      runCommand w { s with inbox := .host (.read 0x03C#25) :: rest
                            replies := s.replies ++ List.replicate p.early (statusWord s) } = .next t →
      (statusWord s).getLsbD 0 = true ∧
      ∃ x : Word, x.getLsbD 0 = false ∧
        Host.Core.run Sys2Proof.core (p.early + 2) s = .next { t with inbox := rest, replies := t.replies ++ [x] }) ∧
    (s.inFlight = none → p.early = 0 → s.inbox = (waitIdleEvents p).1 ++ rest →
      ∃ x : Word, x.getLsbD 0 = false ∧ step s = .next { s with inbox := rest, replies := s.replies ++ [x] })

/-- R237: with no command in flight and nothing to do, the block keeps all its state. -/
def Obligations.IdleBlockKeepsState : Prop :=
  ∀ s : State, s.inFlight = none → s.inbox = [] → step s = .next s

/-- R260 to R262: a reset, while idle or while any command is in flight, leaves every register at its reset value, every memory
entry unwritten and no command in flight; the two depths stay the parameters. -/
def Obligations.ResetEventResetsBlock : Prop :=
  ∀ (s : State) (rest : List Event), s.inbox = .reset :: rest →
    ∃ t, step s = .next t ∧ readReg .id t = 0x49324201#32 ∧
      (t.ctrl = 0 ∧ t.thresh = 0 ∧ t.contrastAmount = 0 ∧ t.cellCols = 0 ∧ t.cellRows = 0 ∧ t.bufW = 0 ∧ t.bufH = 0) ∧
      (t.arg0 = 0 ∧ t.arg1 = 0 ∧ t.res0 = 0 ∧ t.res1 = 0 ∧ t.res2 = 0 ∧ t.res3 = 0) ∧
      (t.done = false ∧ t.err = false ∧ t.errcode = 0 ∧ t.irqEn = 0 ∧ t.inFlight = none ∧ t.irq = false) ∧
      (t.maskDepth = s.maskDepth ∧ t.pixDepth = s.pixDepth) ∧
      ∀ a, Memory.read t.lut a = none ∧ Memory.read t.mask a = none ∧ Memory.read t.pix a = none

/-- R260, R261: the machine right after reset. -/
def Obligations.ResetStateAsSpecified : Prop :=
  readReg .id State.reset = 0x49324201#32 ∧
  (∀ r : Reg, r ≠ .id → r ≠ .maskDepth → r ≠ .pixDepth → readReg r State.reset = 0#32) ∧
  State.reset.maskDepth = Config.maskDepth ∧ State.reset.pixDepth = Config.pixDepth ∧
  State.reset.irq = false ∧ State.reset.inFlight = none ∧
  ∀ a, Memory.read State.reset.lut a = none ∧ Memory.read State.reset.mask a = none ∧ Memory.read State.reset.pix a = none

/-- `Sound` holds at reset. -/
def Obligations.ResetIsSound : Prop := Sound State.reset

/-- Every step keeps `Sound`: canonical memories with nothing beyond their sizes (R61, R224), an assigned error code that is 0
exactly while `ERR` is 0 (R31, R223), depths within R6. -/
def Obligations.StepKeepsSound : Prop := ∀ s t : State, Sound s → step s = .next t → Sound t

/-- R7, R33: no step changes the two parameters. -/
def Obligations.StepKeepsParameters : Prop :=
  ∀ s t : State, step s = .next t → t.maskDepth = s.maskDepth ∧ t.pixDepth = s.pixDepth

/-! ### The bus (20_memory.md) and the registers (10_state.md) -/

/-- R60: the platform presents the address `BASE` + offset at that offset, for every offset of the 32 MiB span, and nothing
outside the span; a host program's line is presented as its bus address `BASE` + offset is (R100). -/
def Obligations.SpanDecodesToOffsets : Prop :=
  (∀ off : Offset, presentedOffset (busAddress off) = some off) ∧
  (∀ (addr : Word) (off : Offset), presentedOffset addr = some off → addr = busAddress off) ∧
  ∀ loc : Loc, loc.offset < 2 ^ 32 → loc.presented = presentedOffset loc.address

/-- R21 to R28, R32: a host write to a read-write register, read back at once, returns the implemented bits, `CONTRAST_AMOUNT`
sign-extended, and changes that register only. -/
def Obligations.RegisterWriteThenRead : Prop :=
  ∀ (s : State) (v : Word) (rest : List Event), s.inFlight = none →
    (s.inbox = .host (.write 0x004#25 v) :: .host (.read 0x004#25) :: rest →
      Host.Core.run Sys2Proof.core 2 s =
        .next { s with ctrl := v.extractLsb' 0 2, inbox := rest, replies := s.replies ++ [v &&& 0x3#32] }) ∧
    (s.inbox = .host (.write 0x008#25 v) :: .host (.read 0x008#25) :: rest →
      Host.Core.run Sys2Proof.core 2 s =
        .next { s with thresh := v.extractLsb' 0 8, inbox := rest, replies := s.replies ++ [v &&& 0xFF#32] }) ∧
    (s.inbox = .host (.write 0x00C#25 v) :: .host (.read 0x00C#25) :: rest →
      Host.Core.run Sys2Proof.core 2 s =
        .next { s with contrastAmount := v.extractLsb' 0 16, inbox := rest,
                       replies := s.replies ++ [(v.extractLsb' 0 16).signExtend 32] }) ∧
    (s.inbox = .host (.write 0x010#25 v) :: .host (.read 0x010#25) :: rest →
      Host.Core.run Sys2Proof.core 2 s =
        .next { s with cellCols := v.extractLsb' 0 16, inbox := rest, replies := s.replies ++ [v &&& 0xFFFF#32] }) ∧
    (s.inbox = .host (.write 0x014#25 v) :: .host (.read 0x014#25) :: rest →
      Host.Core.run Sys2Proof.core 2 s =
        .next { s with cellRows := v.extractLsb' 0 16, inbox := rest, replies := s.replies ++ [v &&& 0xFFFF#32] }) ∧
    (s.inbox = .host (.write 0x018#25 v) :: .host (.read 0x018#25) :: rest →
      Host.Core.run Sys2Proof.core 2 s =
        .next { s with bufW := v.extractLsb' 0 16, inbox := rest, replies := s.replies ++ [v &&& 0xFFFF#32] }) ∧
    (s.inbox = .host (.write 0x01C#25 v) :: .host (.read 0x01C#25) :: rest →
      Host.Core.run Sys2Proof.core 2 s =
        .next { s with bufH := v.extractLsb' 0 16, inbox := rest, replies := s.replies ++ [v &&& 0xFFFF#32] }) ∧
    (s.inbox = .host (.write 0x020#25 v) :: .host (.read 0x020#25) :: rest →
      Host.Core.run Sys2Proof.core 2 s = .next { s with arg0 := v, inbox := rest, replies := s.replies ++ [v] }) ∧
    (s.inbox = .host (.write 0x024#25 v) :: .host (.read 0x024#25) :: rest →
      Host.Core.run Sys2Proof.core 2 s = .next { s with arg1 := v, inbox := rest, replies := s.replies ++ [v] }) ∧
    (s.inbox = .host (.write 0x040#25 v) :: .host (.read 0x040#25) :: rest →
      Host.Core.run Sys2Proof.core 2 s =
        .next { s with irqEn := v.extractLsb' 0 2, inbox := rest, replies := s.replies ++ [v &&& 0x3#32] })

/-- R22, R29, R33, R34: writes to `ID`, `RES0` to `RES3`, `MASK_DEPTH` and `PIX_DEPTH` are ignored and raise no error; a read
returns the constant, the result, or the parameter. -/
def Obligations.ReadOnlyRegistersIgnoreWrites : Prop :=
  ∀ (s : State) (off : Offset) (v x : Word) (rest : List Event), s.inFlight = none →
    ((off = 0x000#25 ∧ x = 0x49324201#32) ∨ (off = 0x028#25 ∧ x = s.res0) ∨ (off = 0x02C#25 ∧ x = s.res1) ∨
     (off = 0x030#25 ∧ x = s.res2) ∨ (off = 0x034#25 ∧ x = s.res3) ∨
     (off = 0x044#25 ∧ x = BitVec.ofNat 32 s.maskDepth) ∨ (off = 0x048#25 ∧ x = BitVec.ofNat 32 s.pixDepth)) →
    (s.inbox = .host (.write off v) :: rest → step s = .next { s with inbox := rest }) ∧
    (s.inbox = .host (.read off) :: rest → step s = .next { s with inbox := rest, replies := s.replies ++ [x] })

/-- R31: the layout of `STATUS` as a host reads it, `BUSY` and the reserved bits also while a command is in flight, and what a
write clears. -/
def Obligations.StatusReadAndAcknowledge : Prop :=
  ∀ (s : State) (v : Word) (rest : List Event),
    (s.inFlight = none → s.inbox = .host (.read 0x03C#25) :: rest →
      ∃ x : Word, step s = .next { s with inbox := rest, replies := s.replies ++ [x] } ∧
        x.getLsbD 0 = false ∧ x.getLsbD 1 = s.done ∧ x.getLsbD 2 = s.err ∧ x.getLsbD 3 = false ∧
        x.extractLsb' 4 4 = s.errcode ∧ x.extractLsb' 8 24 = 0#24) ∧
    (s.inFlight ≠ none → s.inbox = .poll :: rest →
      ∃ x : Word, step s = .next { s with inbox := rest, replies := s.replies ++ [x] } ∧
        x.getLsbD 0 = true ∧ x.getLsbD 3 = false ∧ x.extractLsb' 8 24 = 0#24) ∧
    (s.inFlight = none → s.inbox = .host (.write 0x03C#25 v) :: rest →
      step s = .next { s with
        done := if v.getLsbD 1 = true then false else s.done
        err := if v.getLsbD 2 = true then false else s.err
        errcode := if v.getLsbD 2 = true then 0#4 else s.errcode
        inbox := rest })

/-- R63, R222: a misaligned access is a bus error: a read returns 0, a write changes nothing, and only `ERR` and `ERRCODE`
record it. -/
def Obligations.MisalignedAccessIsBusError : Prop :=
  ∀ (s : State) (off : Offset) (v : Word) (rest : List Event), s.inFlight = none → off.toNat % 4 ≠ 0 →
    (s.inbox = .host (.read off) :: rest →
      step s = .next { s with errcode := if s.err = true then s.errcode else 4#4, err := true, inbox := rest,
                              replies := s.replies ++ [0#32] }) ∧
    (s.inbox = .host (.write off v) :: rest →
      step s = .next { s with errcode := if s.err = true then s.errcode else 4#4, err := true, inbox := rest })

/-- R60, R64, R222: an aligned access to an offset the map marks unmapped, a window word beyond its depth among them, is a bus
error. -/
def Obligations.UnmappedAccessIsBusError : Prop :=
  ∀ (s : State) (off : Offset) (v : Word) (rest : List Event), s.inFlight = none → off.toNat % 4 = 0 →
    ((0x04C ≤ off.toNat ∧ off.toNat ≤ 0xFFC) ∨ (0x1400 ≤ off.toNat ∧ off.toNat ≤ 0xFFFFC) ∨
     (0x100000 + 4 * s.maskDepth ≤ off.toNat ∧ off.toNat ≤ 0x1FFFFC) ∨
     (0x200000 ≤ off.toNat ∧ off.toNat ≤ 0xFFFFFC) ∨ 0x1000000 + 4 * s.pixDepth ≤ off.toNat) →
    (s.inbox = .host (.read off) :: rest →
      step s = .next { s with errcode := if s.err = true then s.errcode else 4#4, err := true, inbox := rest,
                              replies := s.replies ++ [0#32] }) ∧
    (s.inbox = .host (.write off v) :: rest →
      step s = .next { s with errcode := if s.err = true then s.errcode else 4#4, err := true, inbox := rest })

/-- R67: a write to LUT window word `c` keeps bits [7:0] in entry `c` and changes nothing else; a read returns the entry with
zeros above. -/
def Obligations.LutWindowReadsAndWrites : Prop :=
  ∀ (s : State) (c : Nat) (v : Word) (rest : List Event), s.inFlight = none → c ≤ 255 →
    (s.inbox = .host (.write (BitVec.ofNat 25 (0x1000 + 4 * c)) v) :: rest →
      ∃ m, step s = .next { s with lut := m, inbox := rest } ∧
        ∀ k, Memory.read m k = if k = c then some (v.extractLsb' 0 8) else Memory.read s.lut k) ∧
    (∀ b, s.inbox = .host (.read (BitVec.ofNat 25 (0x1000 + 4 * c))) :: rest → Memory.read s.lut c = some b →
      step s = .next { s with inbox := rest, replies := s.replies ++ [b.zeroExtend 32] })

/-- R68: a write to mask window word `i` keeps bits [7:0] in entry `i` and changes nothing else; a read returns the entry with
zeros above. -/
def Obligations.MaskWindowReadsAndWrites : Prop :=
  ∀ (s : State) (i : Nat) (v : Word) (rest : List Event), s.inFlight = none →
    depthsWellFormed s.maskDepth s.pixDepth = true → i < s.maskDepth →
    (s.inbox = .host (.write (BitVec.ofNat 25 (0x100000 + 4 * i)) v) :: rest →
      ∃ m, step s = .next { s with mask := m, inbox := rest } ∧
        ∀ k, Memory.read m k = if k = i then some (v.extractLsb' 0 8) else Memory.read s.mask k) ∧
    (∀ b, s.inbox = .host (.read (BitVec.ofNat 25 (0x100000 + 4 * i))) :: rest → Memory.read s.mask i = some b →
      step s = .next { s with inbox := rest, replies := s.replies ++ [b.zeroExtend 32] })

/-- R69: a write to pixel window word `p` keeps all 32 bits in word `p` and changes nothing else; a read returns the word. -/
def Obligations.PixelWindowReadsAndWrites : Prop :=
  ∀ (s : State) (p : Nat) (v : Word) (rest : List Event), s.inFlight = none →
    depthsWellFormed s.maskDepth s.pixDepth = true → p < s.pixDepth →
    (s.inbox = .host (.write (BitVec.ofNat 25 (0x1000000 + 4 * p)) v) :: rest →
      ∃ m, step s = .next { s with pix := m, inbox := rest } ∧
        ∀ k, Memory.read m k = if k = p then some v else Memory.read s.pix k) ∧
    (∀ w, s.inbox = .host (.read (BitVec.ofNat 25 (0x1000000 + 4 * p))) :: rest → Memory.read s.pix p = some w →
      step s = .next { s with inbox := rest, replies := s.replies ++ [w] })

/-- R40, R70, U11: a host read of an unwritten entry of a window stops the model by the memory's own name. -/
def Obligations.UnwrittenWindowReadFaults : Prop :=
  ∀ (s : State) (k : Nat) (rest : List Event), s.inFlight = none → depthsWellFormed s.maskDepth s.pixDepth = true →
    (k ≤ 255 → Memory.read s.lut k = none → s.inbox = .host (.read (BitVec.ofNat 25 (0x1000 + 4 * k))) :: rest →
      step s = .fault (.unwrittenLut k)) ∧
    (k < s.maskDepth → Memory.read s.mask k = none →
      s.inbox = .host (.read (BitVec.ofNat 25 (0x100000 + 4 * k))) :: rest → step s = .fault (.unwrittenMask k)) ∧
    (k < s.pixDepth → Memory.read s.pix k = none →
      s.inbox = .host (.read (BitVec.ofNat 25 (0x1000000 + 4 * k))) :: rest → step s = .fault (.unwrittenPix k))

/-- R71: a read of a mapped offset changes nothing but what it returns; a write, but one to `CMD`, leaves the same state when it
is repeated. A read that is a bus error sets `ERR` (R63, R64) and is not of the first kind. -/
def Obligations.HostAccessEffects : Prop :=
  ∀ (s : State) (off : Offset) (v : Word) (rest : List Event), s.inFlight = none →
    (∀ t, s.inbox = .host (.read off) :: rest → busTarget off s ≠ .misaligned → busTarget off s ≠ .unmapped →
      step s = .next t → ∃ x, t = { s with inbox := rest, replies := s.replies ++ [x] }) ∧
    (off ≠ 0x038#25 →
      Host.Core.run Sys2Proof.core 2 { s with inbox := .host (.write off v) :: .host (.write off v) :: rest } =
      Host.Core.run Sys2Proof.core 1 { s with inbox := .host (.write off v) :: rest })

/-- R230: `IRQ` is the level (`DONE` and `DONE_IE`) or (`ERR` and `ERR_IE`). With `DONE_IE` set, a `NOP` raises it; writing 1 to
`DONE` lowers it while `ERR` is 0 or not enabled; after reset it is low. -/
def Obligations.InterruptFollowsStatus : Prop :=
  State.reset.irq = false ∧
  (∀ s : State, s.irq = true ↔ (s.done = true ∧ s.irqEn.getLsbD 0 = true) ∨ (s.err = true ∧ s.irqEn.getLsbD 1 = true)) ∧
  ∀ s : State, s.irqEn.getLsbD 0 = true →
    ∃ t, exec .nop s = .next t ∧ t.irq = true ∧
      ((s.err = false ∨ s.irqEn.getLsbD 1 = false) → (acknowledge 0x00000002#32 t).irq = false)

/-! ### Errors and completion (60_exceptions.md) -/

/-- R220, R28: when a command completes, `DONE` is 1 and `BUSY` 0; no command changes a configuration register, an operand
register or `IRQ_EN`, and none touches what the host still has to do or has read. -/
def Obligations.CompletionFrame : Prop :=
  ∀ (i : Instr) (s t : State), exec i s = .next t →
    t.done = true ∧ t.inFlight = none ∧
    (t.ctrl = s.ctrl ∧ t.thresh = s.thresh ∧ t.contrastAmount = s.contrastAmount ∧ t.cellCols = s.cellCols ∧
     t.cellRows = s.cellRows ∧ t.bufW = s.bufW ∧ t.bufH = s.bufH) ∧
    (t.arg0 = s.arg0 ∧ t.arg1 = s.arg1 ∧ t.irqEn = s.irqEn) ∧
    (t.maskDepth = s.maskDepth ∧ t.pixDepth = s.pixDepth ∧ t.inbox = s.inbox ∧ t.replies = s.replies)

/-- R93, column "Writes": which memories and result registers a command may change at all. -/
def Obligations.CommandsWriteOnlyWhatTheMapNames : Prop :=
  ∀ (i : Instr) (s t : State), exec i s = .next t →
    (i ≠ .lutgen → t.lut = s.lut) ∧
    (i ∉ [.clear, .encode, .render, .encpix, .setglyph] → t.mask = s.mask) ∧
    (i ∉ [.contrast, .render, .unpack, .unpackall] → t.pix = s.pix) ∧
    (i ∉ [.encpix, .luma, .curve, .decide, .lumaxy, .glyphEnc, .glyphCell, .glyphDec, .setglyph, .gridPix, .gridCell] →
      t.res0 = s.res0) ∧
    (i ∉ [.encpix, .glyphCell, .glyphDec, .setglyph, .gridPix, .gridCell] → t.res1 = s.res1) ∧
    (i ∉ [.encpix, .gridPix, .gridCell] → t.res2 = s.res2 ∧ t.res3 = s.res3)

/-- R221: a command that raises an error while `ERR` is 0 changes nothing but `STATUS`, and its code is `CFG` or `OOB`. R223: while
`ERR` is 1 no command changes `ERRCODE` or clears `ERR`, and the commands that raise no error leave both as they were. -/
def Obligations.ErroringCommandOnlyReports : Prop :=
  ∀ (i : Instr) (s t : State), exec i s = .next t →
    (s.err = false → t.err = true → t = s.reported 2#4 ∨ t = s.reported 3#4) ∧
    (s.err = true → t.err = true ∧ t.errcode = s.errcode) ∧
    (t.err = false → t.errcode = s.errcode) ∧
    (i ∈ [Instr.lutgen, .luma, .curve, .decide, .glyphEnc, .glyphDec, .nop] → t.err = s.err ∧ t.errcode = s.errcode)

/-- R40, U1: a command stops only at an entry of its memory that is unwritten when the command starts, and no command is refused. -/
def Obligations.CommandsStopOnlyAtUnwrittenEntries : Prop :=
  ∀ (i : Instr) (s : State),
    (∀ r, exec i s ≠ .refused r) ∧
    (∀ c, exec i s = .fault (.unwrittenLut c) → Memory.read s.lut c = none) ∧
    (∀ k, exec i s = .fault (.unwrittenMask k) → Memory.read s.mask k = none) ∧
    (∀ p, exec i s = .fault (.unwrittenPix p) → Memory.read s.pix p = none)

/-- R224: the capacity predicate, that it keeps the indices of the grid and of the buffer inside their memories, and `CFG` from
every command that checks it, whatever the operands. -/
def Obligations.CapacityCheckRaisesCfg : Prop :=
  ∀ s : State,
    (s.geomOk = true ↔ s.cellCols.toNat * s.cellRows.toNat ≤ s.maskDepth ∧ s.bufW.toNat * s.bufH.toNat ≤ s.pixDepth) ∧
    (s.geomOk = true → (∀ i, i < s.cellCols.toNat * s.cellRows.toNat → i < s.maskDepth) ∧
      ∀ p, p < s.bufW.toNat * s.bufH.toNat → p < s.pixDepth) ∧
    ∀ i : Instr, i ∈ [Instr.clear, .contrast, .encode, .render, .encpix, .lumaxy, .glyphCell, .setglyph, .unpack, .unpackall] →
      s.geomOk = false → exec i s = .next (s.reported 2#4)

/-- R144: the cell of pixel (x, y); a covered pixel's cell lies in the grid, and with `GEOM_OK` in the mask RAM. Two covered
pixels share a cell iff they share `(x div 2, y div 4)`, and then differ in their mask bit unless they are the same pixel. -/
def Obligations.CoveredPixelsHaveTheirOwnDots : Prop :=
  ∀ (s : State) (x y x' y' : Nat),
    s.cellIndex x y = y / 4 * s.cellCols.toNat + x / 2 ∧
    (s.covered x y = true → x / 2 < s.cellCols.toNat ∧ y / 4 < s.cellRows.toNat ∧ s.cellIndex x y < s.cellCount ∧
      (s.geomOk = true → s.cellIndex x y < s.maskDepth)) ∧
    (s.covered x y = true → s.covered x' y' = true →
      (s.cellIndex x y = s.cellIndex x' y' ↔ x / 2 = x' / 2 ∧ y / 4 = y' / 4) ∧
      (s.cellIndex x y = s.cellIndex x' y' → bitIdx x y = bitIdx x' y' → x = x' ∧ y = y'))

/-! ### Control (44_control.md) -/

/-- R210: `NOP` does nothing but complete. -/
def Obligations.NopOnlyCompletes : Prop :=
  encode .nop = 0x00000000#32 ∧ ∀ s : State, exec .nop s = .next { s with done := true, inFlight := none }

/-! ### The photometric pipeline (40_photometric.md) -/

/-- R110, R114: `LUMA` gives the weighted sum divided by 1000, truncated; alpha is not read. -/
def Obligations.LumaWeightsChannels : Prop :=
  encode .luma = 0x00000010#32 ∧
  ∀ s : State,
    exec .luma s = .next { s with
      res0 := BitVec.ofNat 32 ((s.arg0.toNat % 256 * 299 + s.arg0.toNat / 256 % 256 * 587 + s.arg0.toNat / 65536 % 256 * 114) / 1000)
      done := true
      inFlight := none } ∧
    (s.arg0.toNat % 256 * 299 + s.arg0.toNat / 256 % 256 * 587 + s.arg0.toNat / 65536 % 256 * 114) / 1000 ≤ 255

/-- R111: the contrast curve is the clamped floor of the rational, plus 128; at 259 the three stated values. -/
def Obligations.CurveIsClampedFloor : Prop :=
  ∀ (a : Int) (c : Byte),
    (a ≠ 259 → ((curveFn a c).toNat : Int) =
      min (max (⌊(259 * ((a : ℚ) + 255) * ((c.toNat : ℚ) - 128)) / (255 * (259 - (a : ℚ)))⌋ + 128) 0) 255) ∧
    (a = 259 → (curveFn a c).toNat = if c.toNat < 128 then 0 else if c.toNat = 128 then 128 else 255)

/-- R111, the properties of the curve: amount 0 is the identity, amount -255 gives 128, 128 stays 128, and the curve falls for
amounts below -255 or above 259 and rises between -255 and 259. -/
def Obligations.CurveShape : Prop :=
  (∀ c : Byte, curveFn 0 c = c) ∧ (∀ c : Byte, curveFn (-255) c = 128#8) ∧ (∀ a : Int, curveFn a 128#8 = 128#8) ∧
  (∀ (a : Int) (c d : Byte), c.toNat ≤ d.toNat → (a < -255 ∨ 259 < a) → (curveFn a d).toNat ≤ (curveFn a c).toNat) ∧
  (∀ (a : Int) (c d : Byte), c.toNat ≤ d.toNat → -255 ≤ a → a ≤ 259 → (curveFn a c).toNat ≤ (curveFn a d).toNat)

/-- R115: `LUTGEN` writes `CURVE_FN(a, c)` into every LUT entry, for `a` the signed `CONTRAST_AMOUNT`. -/
def Obligations.LutgenWritesTheCurve : Prop :=
  encode .lutgen = 0x00000002#32 ∧
  ∀ s : State, ∃ m, exec .lutgen s = .next { s with lut := m, done := true, inFlight := none } ∧
    ∀ c, Memory.read m c = if c < 256 then some (curveFn s.contrastAmount.toInt (BitVec.ofNat 8 c)) else Memory.read s.lut c

/-- R112, R116: `CURVE` sends B, G and R of `ARG0` through the LUT and keeps A; an unwritten entry it needs stops the model. -/
def Obligations.CurveMapsTheThreeLanes : Prop :=
  encode .curve = 0x00000011#32 ∧
  ∀ s : State,
    (∀ b g r : Byte, Memory.read s.lut (s.arg0.toNat / 65536 % 256) = some b →
      Memory.read s.lut (s.arg0.toNat / 256 % 256) = some g → Memory.read s.lut (s.arg0.toNat % 256) = some r →
      ∃ x : Word, exec .curve s = .next { s with res0 := x, done := true, inFlight := none } ∧
        x.extractLsb' 0 8 = r ∧ x.extractLsb' 8 8 = g ∧ x.extractLsb' 16 8 = b ∧ x.extractLsb' 24 8 = s.arg0.extractLsb' 24 8) ∧
    ((Memory.read s.lut (s.arg0.toNat / 65536 % 256) = none ∨ Memory.read s.lut (s.arg0.toNat / 256 % 256) = none ∨
      Memory.read s.lut (s.arg0.toNat % 256) = none) →
      ∃ c, exec .curve s = .fault (.unwrittenLut c))

/-- R117: `CONTRAST` replaces every pixel of the buffer by its `CURVE_WORD` and no other word; an unwritten entry it needs stops
the model (R40, U1). -/
def Obligations.ContrastMapsTheWholeBuffer : Prop :=
  encode .contrast = 0x00000003#32 ∧
  (∀ s : State, s.geomOk = false → exec .contrast s = .next (s.reported 2#4)) ∧
  (∀ s : State, s.geomOk = true → ¬ s.contrastReady → ∃ f, exec .contrast s = .fault f) ∧
  ∀ s : State, s.geomOk = true → s.contrastReady →
    ∃ q, exec .contrast s = .next { s with pix := q, done := true, inFlight := none } ∧
      ∀ p, Memory.read q p =
        if p < s.bufW.toNat * s.bufH.toNat then (Memory.read s.pix p).bind s.curved else Memory.read s.pix p

/-- R111, R115, R117: with `CONTRAST_AMOUNT` = 0, `LUTGEN` and then `CONTRAST` leave every pixel as it was. -/
def Obligations.ZeroAmountContrastIsIdentity : Prop :=
  ∀ s : State, s.contrastAmount = 0 → s.geomOk = true → (∀ p, p < s.pixelCount → (Memory.read s.pix p).isSome = true) →
    ∃ t u, exec .lutgen s = .next t ∧ exec .contrast t = .next u ∧ ∀ p, Memory.read u.pix p = Memory.read s.pix p

/-- R113, R118: `DECIDE` gives 1 iff `l ≥ t`, with both sides inverted iff `l ≤ t`; equality is on under both. -/
def Obligations.DecideComparesWithDoubleInversion : Prop :=
  encode .decide = 0x00000012#32 ∧
  (∀ s : State, exec .decide s = .next { s with
      res0 := if (if s.ctrl.getLsbD 0 = true then s.arg0.toNat % 256 ≤ s.thresh.toNat else s.thresh.toNat ≤ s.arg0.toNat % 256)
        then 1#32 else 0#32
      done := true
      inFlight := none }) ∧
  ∀ l t : Byte, dot l t true = dot (255#8 - l) (255#8 - t) false

/-! ### The bit-packer (41_encoder.md) -/

/-- R145: `CLEAR` zeroes the mask of every cell of the grid and of no other. -/
def Obligations.ClearZeroesTheGrid : Prop :=
  encode .clear = 0x00000001#32 ∧
  (∀ s : State, s.geomOk = false → exec .clear s = .next (s.reported 2#4)) ∧
  ∀ s : State, s.geomOk = true →
    ∃ m, exec .clear s = .next { s with mask := m, done := true, inFlight := none } ∧
      ∀ i, Memory.read m i = if i < s.cellCols.toNat * s.cellRows.toNat then some 0#8 else Memory.read s.mask i

/-- R146: `ENCODE` ORs into each cell's mask exactly the dots its covered pixels decide, and changes nothing else; an unwritten
entry it needs stops the model (R40, U1). -/
def Obligations.EncodeOrsTheDecidedDots : Prop :=
  encode .encode = 0x00000004#32 ∧
  (∀ s : State, s.geomOk = false → exec .encode s = .next (s.reported 2#4)) ∧
  (∀ s : State, s.geomOk = true → ¬ (s.coveredWritten ∧ s.dotsWritable) → ∃ f, exec .encode s = .fault f) ∧
  ∀ s : State, s.geomOk = true → s.coveredWritten → s.dotsWritable →
    ∃ m, exec .encode s = .next { s with mask := m, done := true, inFlight := none } ∧
      ∀ i, Memory.read m i =
        if i < s.cellCount then (Memory.read s.mask i).map (fun b => b ||| s.cellDots i) else Memory.read s.mask i

/-- The mask bits of `cellDots`: bit `b` of cell `i` is on iff the pixel at column `b mod 2`, row `b div 2` of the cell is covered
and its dot is on (R140, R143, R144). -/
def Obligations.CellDotsBitByBit : Prop :=
  ∀ (s : State) (i b : Nat), b < 8 →
    ((s.cellDots i).getLsbD b = true ↔
      2 * (i % s.cols) + b % 2 < min s.width (2 * s.cols) ∧ 4 * (i / s.cols) + b / 2 < min s.height (4 * s.rows) ∧
      ∃ w, Memory.read s.pix ((4 * (i / s.cols) + b / 2) * s.width + (2 * (i % s.cols) + b % 2)) = some w ∧
        dot (luma w) s.thresh (s.ctrl.getLsbD 0) = true)

/-- R148: `RENDER` leaves in every cell exactly the dots of its covered pixels, contrasted first when `CONTRAST_EN` is 1, and the
contrasted buffer in place; an unwritten entry it needs stops the model (R40, U1). -/
def Obligations.RenderEncodesTheContrastedBuffer : Prop :=
  encode .render = 0x00000005#32 ∧
  (∀ s : State, s.geomOk = false → exec .render s = .next (s.reported 2#4)) ∧
  (∀ s : State, s.geomOk = true → ¬ s.renderReady → ∃ f, exec .render s = .fault f) ∧
  ∀ s : State, s.geomOk = true → s.renderReady →
    ∃ m q, exec .render s = .next { s with mask := m, pix := q, done := true, inFlight := none } ∧
      (∀ p, Memory.read q p =
        if s.contrastEn = true ∧ p < s.pixelCount then (Memory.read s.pix p).bind s.curved else Memory.read s.pix p) ∧
      ∀ i, Memory.read m i =
        if i < s.cellCount then some (State.cellDots { s with pix := q } i) else Memory.read s.mask i

/-- R147: one step of the encoder at flat address `ARG0`, with its checks in order, its report in `RES0` to `RES3`, and the one
mask entry it may change. -/
def Obligations.EncpixStepsAndReports : Prop :=
  encode .encpix = 0x00000006#32 ∧
  ∀ (s : State) (a x y i : Nat), a = s.arg0.toNat → x = a % s.bufW.toNat → y = a / s.bufW.toNat →
    i = y / 4 * s.cellCols.toNat + x / 2 →
    (s.geomOk = false → exec .encpix s = .next (s.reported 2#4)) ∧
    (s.geomOk = true → s.bufW.toNat * s.bufH.toNat ≤ a → exec .encpix s = .next (s.reported 3#4)) ∧
    (s.geomOk = true → a < s.bufW.toNat * s.bufH.toNat → Memory.read s.pix a = none →
      exec .encpix s = .fault (.unwrittenPix a)) ∧
    (∀ w, s.geomOk = true → a < s.bufW.toNat * s.bufH.toNat → Memory.read s.pix a = some w →
      (s.covered x y = true → s.dotOn w = true → Memory.read s.mask i = none → exec .encpix s = .fault (.unwrittenMask i)) ∧
      ((s.covered x y = true → s.dotOn w = true → (Memory.read s.mask i).isSome = true) →
        ∃ m, exec .encpix s = .next { s with
            mask := m
            res0 := (luma w).zeroExtend 32
            res1 := if s.dotOn w = true then 1#32 else 0#32
            res2 := BitVec.ofNat 32 i
            res3 := BitVec.ofNat 32 (x % 2 + 2 * (y % 4) + if s.covered x y = true then 0 else 2 ^ 31)
            done := true
            inFlight := none } ∧
          ∀ k, Memory.read m k =
            if k = i ∧ s.covered x y = true ∧ s.dotOn w = true then
              (Memory.read s.mask i).map (fun b => b ||| (1#8 <<< (x % 2 + 2 * (y % 4))))
            else Memory.read s.mask k))

/-- R142, R149: `GLYPH_ENC` sends mask bit k to glyph bit `GB[k]` of the code point, whose other bits are those of 0x2800. -/
def Obligations.GlyphEncRemapsTheMask : Prop :=
  encode .glyphEnc = 0x00000020#32 ∧
  ∀ s : State, ∃ x : Word, exec .glyphEnc s = .next { s with res0 := x, done := true, inFlight := none } ∧
    x.extractLsb' 8 24 = 0x28#24 ∧
    x.getLsbD 0 = s.arg0.getLsbD 0 ∧ x.getLsbD 3 = s.arg0.getLsbD 1 ∧ x.getLsbD 1 = s.arg0.getLsbD 2 ∧
    x.getLsbD 4 = s.arg0.getLsbD 3 ∧ x.getLsbD 2 = s.arg0.getLsbD 4 ∧ x.getLsbD 5 = s.arg0.getLsbD 5 ∧
    x.getLsbD 6 = s.arg0.getLsbD 6 ∧ x.getLsbD 7 = s.arg0.getLsbD 7

/-- R150: `GLYPH_CELL` gives the code point and the mask of cell `ARG0`, with its checks in order. -/
def Obligations.GlyphCellReadsOneCell : Prop :=
  encode .glyphCell = 0x00000021#32 ∧
  ∀ s : State,
    (s.geomOk = false → exec .glyphCell s = .next (s.reported 2#4)) ∧
    (s.geomOk = true → s.cellCols.toNat * s.cellRows.toNat ≤ s.arg0.toNat → exec .glyphCell s = .next (s.reported 3#4)) ∧
    (s.geomOk = true → s.arg0.toNat < s.cellCols.toNat * s.cellRows.toNat →
      (Memory.read s.mask s.arg0.toNat = none → exec .glyphCell s = .fault (.unwrittenMask s.arg0.toNat)) ∧
      ∀ m, Memory.read s.mask s.arg0.toNat = some m →
        exec .glyphCell s = .next { s with res0 := codePoint m, res1 := m.zeroExtend 32, done := true, inFlight := none })

/-- R151: after `RENDER` the three views of a cell agree: dot (column `dx`, row `dy`) of its pixel block is mask bit `dx + 2*dy`
and glyph bit `GB[dx + 2*dy]`, and every cell of the grid has one Braille code point. -/
def Obligations.PixelMaskAndGlyphViewsAgree : Prop :=
  ∀ s : State, s.geomOk = true → s.renderReady → ∀ i, i < s.cellCount →
    ∃ t u, exec .render s = .next t ∧ exec .glyphCell { t with arg0 := BitVec.ofNat 32 i } = .next u ∧
      u.res0.extractLsb' 8 24 = 0x28#24 ∧
      ∀ dx dy, dx < 2 → dy < 4 →
        u.res1.getLsbD (dx + 2 * dy) = (t.covered (2 * (i % t.cols) + dx) (4 * (i / t.cols) + dy) &&
          t.dotAt (2 * (i % t.cols) + dx) (4 * (i / t.cols) + dy)) ∧
        u.res0.getLsbD (glyphBitTable.getD (dx + 2 * dy) 0) = u.res1.getLsbD (dx + 2 * dy)

/-! ### The unpacker (42_decoder.md) -/

/-- R170: `UNGLYPH` sends glyph bit j to mask bit `GI[j]`, and `UNGLYPH` and `GLYPH` are inverse to each other on 8-bit values. -/
def Obligations.GlyphRemapIsABijection : Prop :=
  (∀ (g : Byte) (j : Nat), j < 8 → (unglyph g).getLsbD ([0, 2, 4, 1, 3, 5, 6, 7].getD j 0) = g.getLsbD j) ∧
  (∀ m : Byte, unglyph (glyph m) = m) ∧ ∀ g : Byte, glyph (unglyph g) = g

/-- R171, R175: `GLYPH_DEC` gives the mask of the low byte, whatever the other bits, and reports whether the code point is in the
Braille block. -/
def Obligations.GlyphDecIsLenient : Prop :=
  encode .glyphDec = 0x00000028#32 ∧
  ∀ s : State, ∃ x : Word, exec .glyphDec s = .next { s with
      res0 := x
      res1 := if 0x2800 ≤ s.arg0.toNat ∧ s.arg0.toNat ≤ 0x28FF then 1#32 else 0#32
      done := true
      inFlight := none } ∧
    x.extractLsb' 8 24 = 0#24 ∧ glyph (x.extractLsb' 0 8) = s.arg0.extractLsb' 0 8

/-- R172: `SETGLYPH` stores the mask of `ARG1`'s code point in cell `ARG0`, with its checks in order. -/
def Obligations.SetglyphStoresOneMask : Prop :=
  encode .setglyph = 0x00000029#32 ∧
  ∀ s : State,
    (s.geomOk = false → exec .setglyph s = .next (s.reported 2#4)) ∧
    (s.geomOk = true → s.cellCols.toNat * s.cellRows.toNat ≤ s.arg0.toNat → exec .setglyph s = .next (s.reported 3#4)) ∧
    (s.geomOk = true → s.arg0.toNat < s.cellCols.toNat * s.cellRows.toNat →
      ∃ m, exec .setglyph s = .next { s with
          mask := m
          res0 := (unglyph (s.arg1.extractLsb' 0 8)).zeroExtend 32
          res1 := if s.arg1.extractLsb' 8 24 = 0x28#24 then 1#32 else 0#32
          done := true
          inFlight := none } ∧
        ∀ k, Memory.read m k =
          if k = s.arg0.toNat then some (unglyph (s.arg1.extractLsb' 0 8)) else Memory.read s.mask k)

/-- R173, R176: `UNPACK` writes WHITE or BLACK into the pixels of cell `ARG0` that lie in the buffer, and into no other word. -/
def Obligations.UnpackWritesOneBlock : Prop :=
  encode .unpack = 0x0000002A#32 ∧
  ∀ s : State,
    (s.geomOk = false → exec .unpack s = .next (s.reported 2#4)) ∧
    (s.geomOk = true → s.cellCols.toNat * s.cellRows.toNat ≤ s.arg0.toNat → exec .unpack s = .next (s.reported 3#4)) ∧
    (s.geomOk = true → s.arg0.toNat < s.cellCols.toNat * s.cellRows.toNat →
      (Memory.read s.mask s.arg0.toNat = none → exec .unpack s = .fault (.unwrittenMask s.arg0.toNat)) ∧
      ∀ m, Memory.read s.mask s.arg0.toNat = some m →
        ∃ q, exec .unpack s = .next { s with pix := q, done := true, inFlight := none } ∧
          (∀ x y, x < s.width → y < s.height → Memory.read q (s.pixelIndex x y) =
            if x / 2 = s.arg0.toNat % s.cols ∧ y / 4 = s.arg0.toNat / s.cols then
              some (if m.getLsbD (x % 2 + 2 * (y % 4)) = true then 0xFFFFFFFF#32 else 0xFF000000#32)
            else Memory.read s.pix (s.pixelIndex x y)) ∧
          ∀ p, s.pixelCount ≤ p → Memory.read q p = Memory.read s.pix p)

/-- R174: `UNPACKALL` writes exactly the covered area, each pixel from its cell's mask bit; an unwritten mask of the grid stops
the model (R40, U1). -/
def Obligations.UnpackallWritesTheCoveredArea : Prop :=
  encode .unpackall = 0x0000002B#32 ∧
  (∀ s : State, s.geomOk = false → exec .unpackall s = .next (s.reported 2#4)) ∧
  (∀ s : State, s.geomOk = true → ¬ s.gridWritten → ∃ f, exec .unpackall s = .fault f) ∧
  ∀ s : State, s.geomOk = true → s.gridWritten →
    ∃ q, exec .unpackall s = .next { s with pix := q, done := true, inFlight := none } ∧
      (∀ x y, x < s.width → y < s.height → Memory.read q (s.pixelIndex x y) =
        if s.covered x y = true then
          (Memory.read s.mask (s.cellIndex x y)).map
            (fun m => if m.getLsbD (bitIdx x y) = true then 0xFFFFFFFF#32 else 0xFF000000#32)
        else Memory.read s.pix (s.pixelIndex x y)) ∧
      ∀ p, s.pixelCount ≤ p → Memory.read q p = Memory.read s.pix p

/-- R177: on a pure black and white buffer, with `INVERT` = 0, `1 ≤ THRESH` and `CONTRAST_EN` = 0, `RENDER`, `UNPACKALL`, `RENDER`
gives the same masks twice. -/
def Obligations.RenderUnpackRenderIsIdempotent : Prop :=
  ∀ s : State, s.geomOk = true → s.coveredPure → s.ctrl.getLsbD 0 = false → s.ctrl.getLsbD 1 = false → 1 ≤ s.thresh.toNat →
    ∃ t u v, exec .render s = .next t ∧ exec .unpackall t = .next u ∧ exec .render u = .next v ∧
      ∀ i, Memory.read v.mask i = Memory.read t.mask i

/-- R177, second paragraph: with `INVERT` = 1 and `THRESH < 255` the second render's masks are the complement of the first's in
every covered dot, and 0 in both elsewhere. -/
def Obligations.InvertedRoundTripComplements : Prop :=
  ∀ s : State, s.geomOk = true → s.coveredPure → s.ctrl.getLsbD 0 = true → s.ctrl.getLsbD 1 = false → s.thresh.toNat < 255 →
    ∃ t u v, exec .render s = .next t ∧ exec .unpackall t = .next u ∧ exec .render u = .next v ∧
      ∀ i, i < s.cellCount → ∃ m n, Memory.read t.mask i = some m ∧ Memory.read v.mask i = some n ∧
        ∀ b, b < 8 →
          if s.covered (2 * (i % s.cols) + b % 2) (4 * (i / s.cols) + b / 2) = true then n.getLsbD b = !m.getLsbD b
          else n.getLsbD b = false ∧ m.getLsbD b = false

/-! ### The grid-index calculator (43_container.md) -/

/-- R190, R225: `GRID_PIX` gives cell column, cell row, flat cell index and mask bit of the pixel at address `ARG0`. -/
def Obligations.GridPixLocatesThePixel : Prop :=
  encode .gridPix = 0x00000030#32 ∧
  ∀ s : State,
    (s.bufW.toNat = 0 → exec .gridPix s = .next (s.reported 2#4)) ∧
    (s.bufW.toNat ≠ 0 → ∀ x y : Nat, x = s.arg0.toNat % s.bufW.toNat → y = s.arg0.toNat / s.bufW.toNat →
      exec .gridPix s = .next { s with
        res0 := BitVec.ofNat 32 (x / 2)
        res1 := BitVec.ofNat 32 (y / 4)
        res2 := BitVec.ofNat 32 (y / 4 * s.cellCols.toNat + x / 2)
        res3 := BitVec.ofNat 32 (x % 2 + 2 * (y % 4) +
          if x < min s.bufW.toNat (2 * s.cellCols.toNat) ∧ y < min s.bufH.toNat (4 * s.cellRows.toNat) then 0 else 2 ^ 31)
        done := true
        inFlight := none })

/-- R191, R225: `GRID_CELL` gives column, row and top-left pixel address of cell `ARG0`. -/
def Obligations.GridCellLocatesTheCell : Prop :=
  encode .gridCell = 0x00000031#32 ∧
  ∀ s : State,
    (s.cellCols.toNat = 0 → exec .gridCell s = .next (s.reported 2#4)) ∧
    (s.cellCols.toNat ≠ 0 → ∀ col row : Nat, col = s.arg0.toNat % s.cellCols.toNat → row = s.arg0.toNat / s.cellCols.toNat →
      exec .gridCell s = .next { s with
        res0 := BitVec.ofNat 32 col
        res1 := BitVec.ofNat 32 row
        res2 := BitVec.ofNat 32 (4 * row * s.bufW.toNat + 2 * col)
        res3 := if s.arg0.toNat < s.cellCols.toNat * s.cellRows.toNat then 0#32 else 0x80000000#32
        done := true
        inFlight := none })

/-- R192: `LUMAXY` gives the luminance of the pixel (`ARG0`, `ARG1`) of the buffer, with its checks in order. -/
def Obligations.LumaxyAnswersInsideTheBuffer : Prop :=
  encode .lumaxy = 0x00000013#32 ∧
  ∀ (s : State) (p : Nat), p = s.arg1.toNat * s.bufW.toNat + s.arg0.toNat →
    (s.geomOk = false → exec .lumaxy s = .next (s.reported 2#4)) ∧
    (s.geomOk = true → (s.bufW.toNat ≤ s.arg0.toNat ∨ s.bufH.toNat ≤ s.arg1.toNat) →
      exec .lumaxy s = .next (s.reported 3#4)) ∧
    (s.geomOk = true → s.arg0.toNat < s.bufW.toNat → s.arg1.toNat < s.bufH.toNat →
      (Memory.read s.pix p = none → exec .lumaxy s = .fault (.unwrittenPix p)) ∧
      ∀ w, Memory.read s.pix p = some w →
        exec .lumaxy s = .next { s with res0 := (luma w).zeroExtend 32, done := true, inFlight := none })

/-- R66, R190, R191: for a pixel of the covered area the two calculators agree: `GRID_CELL` of the cell that `GRID_PIX` names gives
back its row and column, and the cell's top-left pixel is the pixel's address less its position in the cell. -/
def Obligations.GridCalculatorsAgree : Prop :=
  ∀ s : State, s.covered (s.arg0.toNat % s.width) (s.arg0.toNat / s.width) = true →
    ∃ t u, exec .gridPix s = .next t ∧ exec .gridCell { t with arg0 := t.res2 } = .next u ∧
      t.res3.getLsbD 31 = false ∧ u.res3 = 0#32 ∧ u.res0 = t.res0 ∧ u.res1 = t.res1 ∧
      s.arg0.toNat = u.res2.toNat + (s.arg0.toNat / s.width % 4) * s.width + s.arg0.toNat % s.width % 2

end
end

