-- ==== Sys2Proof/Laws/Memory.lean ====
section
/-! SUPPORT. The laws of a memory: what a read after a write gives, and that a write keeps the canonical form and the
bound on the indices. -/

namespace Sys2Proof.Machine

variable {w : Nat}

@[simp] theorem Memory.read_nil (a : Nat) : Memory.read ([] : Memory w) a = none := rfl

/-- A read after a write: the value written at that entry, and every other entry as before. -/
theorem Memory.read_write (m : Memory w) (a b : Nat) (v : BitVec w) :
    Memory.read (Memory.write m a v) b = if b = a then some v else Memory.read m b := by
  induction m with
  | nil =>
    by_cases h : b = a
    · simp [Memory.write, Memory.read, h]
    · simp [Memory.write, Memory.read, h, Ne.symm h]
  | cons e rest ih =>
    obtain ⟨k, u⟩ := e
    simp only [Memory.write]
    split
    · by_cases h : b = a
      · simp [Memory.read, h]
      · simp [Memory.read, h, Ne.symm h]
    · split
      · rename_i h; subst h
        by_cases h : b = a
        · simp [Memory.read, h]
        · simp [Memory.read, h, Ne.symm h]
      · rename_i hlt hne
        by_cases hk : k = b
        · subst hk
          have : ¬ k = a := fun h => hne h.symm
          simp [Memory.read, this]
        · simp [Memory.read, hk, ih]

@[simp] theorem Memory.read_write_same (m : Memory w) (a : Nat) (v : BitVec w) :
    Memory.read (Memory.write m a v) a = some v := by simp [Memory.read_write]

theorem Memory.read_write_other (m : Memory w) {a b : Nat} (v : BitVec w) (h : b ≠ a) :
    Memory.read (Memory.write m a v) b = Memory.read m b := by simp [Memory.read_write, h]

/-- A write makes an entry written and leaves the others as written as they were. -/
theorem Memory.isSome_read_write (m : Memory w) (a b : Nat) (v : BitVec w) :
    (Memory.read (Memory.write m a v) b).isSome = (decide (b = a) || (Memory.read m b).isSome) := by
  by_cases h : b = a <;> simp [Memory.read_write, h]

/-- Writing the same value twice is writing it once. -/
@[simp] theorem Memory.write_write (m : Memory w) (a : Nat) (v : BitVec w) :
    Memory.write (Memory.write m a v) a v = Memory.write m a v := by
  induction m with
  | nil => simp [Memory.write]
  | cons e rest ih =>
    obtain ⟨k, u⟩ := e
    by_cases h1 : a < k
    · simp [Memory.write, h1]
    · by_cases h2 : a = k
      · simp [Memory.write, h2]
      · simp [Memory.write, h1, h2, ih]

theorem Memory.risingFrom_write (m : Memory w) (lo a : Nat) (v : BitVec w)
    (h : Memory.risingFrom lo m = true) (ha : lo ≤ a) : Memory.risingFrom lo (Memory.write m a v) = true := by
  induction m generalizing lo with
  | nil => simp [Memory.write, Memory.risingFrom, ha]
  | cons e rest ih =>
    obtain ⟨k, u⟩ := e
    simp only [Memory.risingFrom, Bool.and_eq_true, decide_eq_true_eq] at h
    simp only [Memory.write]
    split
    · simp only [Memory.risingFrom, Bool.and_eq_true, decide_eq_true_eq]
      exact ⟨ha, by omega, h.2⟩
    · split
      · rename_i h2; subst h2
        simp only [Memory.risingFrom, Bool.and_eq_true, decide_eq_true_eq]
        exact h
      · simp only [Memory.risingFrom, Bool.and_eq_true, decide_eq_true_eq]
        exact ⟨h.1, ih (k + 1) h.2 (by omega)⟩

/-- A write keeps the canonical form. -/
theorem Memory.wf_write (m : Memory w) (a : Nat) (v : BitVec w) (h : Memory.wf m = true) :
    Memory.wf (Memory.write m a v) = true := Memory.risingFrom_write m 0 a v h (Nat.zero_le a)

/-- A write below the bound keeps every index below it. -/
theorem Memory.below_write (n : Nat) (m : Memory w) (a : Nat) (v : BitVec w)
    (h : Memory.below n m = true) (ha : a < n) : Memory.below n (Memory.write m a v) = true := by
  induction m with
  | nil => simp [Memory.write, Memory.below, ha]
  | cons e rest ih =>
    obtain ⟨k, u⟩ := e
    simp only [Memory.below, Bool.and_eq_true, decide_eq_true_eq] at h
    simp only [Memory.write]
    split
    · simp [Memory.below, ha, h.1, h.2]
    · split
      · simp [Memory.below, ha, h.2]
      · simp [Memory.below, h.1, ih h.2]

/-- An entry at or beyond the bound is unwritten. -/
theorem Memory.read_of_below (n : Nat) (m : Memory w) (a : Nat) (h : Memory.below n m = true) (ha : n ≤ a) :
    Memory.read m a = none := by
  induction m with
  | nil => rfl
  | cons e rest ih =>
    obtain ⟨k, u⟩ := e
    simp only [Memory.below, Bool.and_eq_true, decide_eq_true_eq] at h
    have hk : ¬ k = a := by omega
    simp [Memory.read, hk, ih h.2]

end Sys2Proof.Machine
end

