-- ==== Sys2Proof/Laws/State.lean ====
section
/-! SUPPORT. For every update of the state, one lemma per field: what the field reads afterwards. For the updates inside a
command's pseudocode, also that the geometry and the operands are unchanged. -/

namespace Sys2Proof.Machine

/-! ### lutWrite -/

@[simp] theorem lutWrite_ctrl (c : Nat) (v : Byte) (s : State) : (lutWrite c v s).ctrl = s.ctrl := rfl
@[simp] theorem lutWrite_thresh (c : Nat) (v : Byte) (s : State) : (lutWrite c v s).thresh = s.thresh := rfl
@[simp] theorem lutWrite_contrastAmount (c : Nat) (v : Byte) (s : State) : (lutWrite c v s).contrastAmount = s.contrastAmount := rfl
@[simp] theorem lutWrite_cellCols (c : Nat) (v : Byte) (s : State) : (lutWrite c v s).cellCols = s.cellCols := rfl
@[simp] theorem lutWrite_cellRows (c : Nat) (v : Byte) (s : State) : (lutWrite c v s).cellRows = s.cellRows := rfl
@[simp] theorem lutWrite_bufW (c : Nat) (v : Byte) (s : State) : (lutWrite c v s).bufW = s.bufW := rfl
@[simp] theorem lutWrite_bufH (c : Nat) (v : Byte) (s : State) : (lutWrite c v s).bufH = s.bufH := rfl
@[simp] theorem lutWrite_arg0 (c : Nat) (v : Byte) (s : State) : (lutWrite c v s).arg0 = s.arg0 := rfl
@[simp] theorem lutWrite_arg1 (c : Nat) (v : Byte) (s : State) : (lutWrite c v s).arg1 = s.arg1 := rfl
@[simp] theorem lutWrite_res0 (c : Nat) (v : Byte) (s : State) : (lutWrite c v s).res0 = s.res0 := rfl
@[simp] theorem lutWrite_res1 (c : Nat) (v : Byte) (s : State) : (lutWrite c v s).res1 = s.res1 := rfl
@[simp] theorem lutWrite_res2 (c : Nat) (v : Byte) (s : State) : (lutWrite c v s).res2 = s.res2 := rfl
@[simp] theorem lutWrite_res3 (c : Nat) (v : Byte) (s : State) : (lutWrite c v s).res3 = s.res3 := rfl
@[simp] theorem lutWrite_done (c : Nat) (v : Byte) (s : State) : (lutWrite c v s).done = s.done := rfl
@[simp] theorem lutWrite_err (c : Nat) (v : Byte) (s : State) : (lutWrite c v s).err = s.err := rfl
@[simp] theorem lutWrite_errcode (c : Nat) (v : Byte) (s : State) : (lutWrite c v s).errcode = s.errcode := rfl
@[simp] theorem lutWrite_irqEn (c : Nat) (v : Byte) (s : State) : (lutWrite c v s).irqEn = s.irqEn := rfl
@[simp] theorem lutWrite_maskDepth (c : Nat) (v : Byte) (s : State) : (lutWrite c v s).maskDepth = s.maskDepth := rfl
@[simp] theorem lutWrite_pixDepth (c : Nat) (v : Byte) (s : State) : (lutWrite c v s).pixDepth = s.pixDepth := rfl
@[simp] theorem lutWrite_lut (c : Nat) (v : Byte) (s : State) : (lutWrite c v s).lut = Memory.write s.lut c v := rfl
@[simp] theorem lutWrite_mask (c : Nat) (v : Byte) (s : State) : (lutWrite c v s).mask = s.mask := rfl
@[simp] theorem lutWrite_pix (c : Nat) (v : Byte) (s : State) : (lutWrite c v s).pix = s.pix := rfl
@[simp] theorem lutWrite_inFlight (c : Nat) (v : Byte) (s : State) : (lutWrite c v s).inFlight = s.inFlight := rfl
@[simp] theorem lutWrite_inbox (c : Nat) (v : Byte) (s : State) : (lutWrite c v s).inbox = s.inbox := rfl
@[simp] theorem lutWrite_replies (c : Nat) (v : Byte) (s : State) : (lutWrite c v s).replies = s.replies := rfl

/-! ### maskWrite -/

@[simp] theorem maskWrite_ctrl (i : Nat) (v : Byte) (s : State) : (maskWrite i v s).ctrl = s.ctrl := rfl
@[simp] theorem maskWrite_thresh (i : Nat) (v : Byte) (s : State) : (maskWrite i v s).thresh = s.thresh := rfl
@[simp] theorem maskWrite_contrastAmount (i : Nat) (v : Byte) (s : State) : (maskWrite i v s).contrastAmount = s.contrastAmount := rfl
@[simp] theorem maskWrite_cellCols (i : Nat) (v : Byte) (s : State) : (maskWrite i v s).cellCols = s.cellCols := rfl
@[simp] theorem maskWrite_cellRows (i : Nat) (v : Byte) (s : State) : (maskWrite i v s).cellRows = s.cellRows := rfl
@[simp] theorem maskWrite_bufW (i : Nat) (v : Byte) (s : State) : (maskWrite i v s).bufW = s.bufW := rfl
@[simp] theorem maskWrite_bufH (i : Nat) (v : Byte) (s : State) : (maskWrite i v s).bufH = s.bufH := rfl
@[simp] theorem maskWrite_arg0 (i : Nat) (v : Byte) (s : State) : (maskWrite i v s).arg0 = s.arg0 := rfl
@[simp] theorem maskWrite_arg1 (i : Nat) (v : Byte) (s : State) : (maskWrite i v s).arg1 = s.arg1 := rfl
@[simp] theorem maskWrite_res0 (i : Nat) (v : Byte) (s : State) : (maskWrite i v s).res0 = s.res0 := rfl
@[simp] theorem maskWrite_res1 (i : Nat) (v : Byte) (s : State) : (maskWrite i v s).res1 = s.res1 := rfl
@[simp] theorem maskWrite_res2 (i : Nat) (v : Byte) (s : State) : (maskWrite i v s).res2 = s.res2 := rfl
@[simp] theorem maskWrite_res3 (i : Nat) (v : Byte) (s : State) : (maskWrite i v s).res3 = s.res3 := rfl
@[simp] theorem maskWrite_done (i : Nat) (v : Byte) (s : State) : (maskWrite i v s).done = s.done := rfl
@[simp] theorem maskWrite_err (i : Nat) (v : Byte) (s : State) : (maskWrite i v s).err = s.err := rfl
@[simp] theorem maskWrite_errcode (i : Nat) (v : Byte) (s : State) : (maskWrite i v s).errcode = s.errcode := rfl
@[simp] theorem maskWrite_irqEn (i : Nat) (v : Byte) (s : State) : (maskWrite i v s).irqEn = s.irqEn := rfl
@[simp] theorem maskWrite_maskDepth (i : Nat) (v : Byte) (s : State) : (maskWrite i v s).maskDepth = s.maskDepth := rfl
@[simp] theorem maskWrite_pixDepth (i : Nat) (v : Byte) (s : State) : (maskWrite i v s).pixDepth = s.pixDepth := rfl
@[simp] theorem maskWrite_lut (i : Nat) (v : Byte) (s : State) : (maskWrite i v s).lut = s.lut := rfl
@[simp] theorem maskWrite_mask (i : Nat) (v : Byte) (s : State) : (maskWrite i v s).mask = Memory.write s.mask i v := rfl
@[simp] theorem maskWrite_pix (i : Nat) (v : Byte) (s : State) : (maskWrite i v s).pix = s.pix := rfl
@[simp] theorem maskWrite_inFlight (i : Nat) (v : Byte) (s : State) : (maskWrite i v s).inFlight = s.inFlight := rfl
@[simp] theorem maskWrite_inbox (i : Nat) (v : Byte) (s : State) : (maskWrite i v s).inbox = s.inbox := rfl
@[simp] theorem maskWrite_replies (i : Nat) (v : Byte) (s : State) : (maskWrite i v s).replies = s.replies := rfl

/-! ### pixWrite -/

@[simp] theorem pixWrite_ctrl (p : Nat) (v : Word) (s : State) : (pixWrite p v s).ctrl = s.ctrl := rfl
@[simp] theorem pixWrite_thresh (p : Nat) (v : Word) (s : State) : (pixWrite p v s).thresh = s.thresh := rfl
@[simp] theorem pixWrite_contrastAmount (p : Nat) (v : Word) (s : State) : (pixWrite p v s).contrastAmount = s.contrastAmount := rfl
@[simp] theorem pixWrite_cellCols (p : Nat) (v : Word) (s : State) : (pixWrite p v s).cellCols = s.cellCols := rfl
@[simp] theorem pixWrite_cellRows (p : Nat) (v : Word) (s : State) : (pixWrite p v s).cellRows = s.cellRows := rfl
@[simp] theorem pixWrite_bufW (p : Nat) (v : Word) (s : State) : (pixWrite p v s).bufW = s.bufW := rfl
@[simp] theorem pixWrite_bufH (p : Nat) (v : Word) (s : State) : (pixWrite p v s).bufH = s.bufH := rfl
@[simp] theorem pixWrite_arg0 (p : Nat) (v : Word) (s : State) : (pixWrite p v s).arg0 = s.arg0 := rfl
@[simp] theorem pixWrite_arg1 (p : Nat) (v : Word) (s : State) : (pixWrite p v s).arg1 = s.arg1 := rfl
@[simp] theorem pixWrite_res0 (p : Nat) (v : Word) (s : State) : (pixWrite p v s).res0 = s.res0 := rfl
@[simp] theorem pixWrite_res1 (p : Nat) (v : Word) (s : State) : (pixWrite p v s).res1 = s.res1 := rfl
@[simp] theorem pixWrite_res2 (p : Nat) (v : Word) (s : State) : (pixWrite p v s).res2 = s.res2 := rfl
@[simp] theorem pixWrite_res3 (p : Nat) (v : Word) (s : State) : (pixWrite p v s).res3 = s.res3 := rfl
@[simp] theorem pixWrite_done (p : Nat) (v : Word) (s : State) : (pixWrite p v s).done = s.done := rfl
@[simp] theorem pixWrite_err (p : Nat) (v : Word) (s : State) : (pixWrite p v s).err = s.err := rfl
@[simp] theorem pixWrite_errcode (p : Nat) (v : Word) (s : State) : (pixWrite p v s).errcode = s.errcode := rfl
@[simp] theorem pixWrite_irqEn (p : Nat) (v : Word) (s : State) : (pixWrite p v s).irqEn = s.irqEn := rfl
@[simp] theorem pixWrite_maskDepth (p : Nat) (v : Word) (s : State) : (pixWrite p v s).maskDepth = s.maskDepth := rfl
@[simp] theorem pixWrite_pixDepth (p : Nat) (v : Word) (s : State) : (pixWrite p v s).pixDepth = s.pixDepth := rfl
@[simp] theorem pixWrite_lut (p : Nat) (v : Word) (s : State) : (pixWrite p v s).lut = s.lut := rfl
@[simp] theorem pixWrite_mask (p : Nat) (v : Word) (s : State) : (pixWrite p v s).mask = s.mask := rfl
@[simp] theorem pixWrite_pix (p : Nat) (v : Word) (s : State) : (pixWrite p v s).pix = Memory.write s.pix p v := rfl
@[simp] theorem pixWrite_inFlight (p : Nat) (v : Word) (s : State) : (pixWrite p v s).inFlight = s.inFlight := rfl
@[simp] theorem pixWrite_inbox (p : Nat) (v : Word) (s : State) : (pixWrite p v s).inbox = s.inbox := rfl
@[simp] theorem pixWrite_replies (p : Nat) (v : Word) (s : State) : (pixWrite p v s).replies = s.replies := rfl

/-! ### writeRes0 -/

@[simp] theorem writeRes0_ctrl (v : Word) (s : State) : (writeRes0 v s).ctrl = s.ctrl := rfl
@[simp] theorem writeRes0_thresh (v : Word) (s : State) : (writeRes0 v s).thresh = s.thresh := rfl
@[simp] theorem writeRes0_contrastAmount (v : Word) (s : State) : (writeRes0 v s).contrastAmount = s.contrastAmount := rfl
@[simp] theorem writeRes0_cellCols (v : Word) (s : State) : (writeRes0 v s).cellCols = s.cellCols := rfl
@[simp] theorem writeRes0_cellRows (v : Word) (s : State) : (writeRes0 v s).cellRows = s.cellRows := rfl
@[simp] theorem writeRes0_bufW (v : Word) (s : State) : (writeRes0 v s).bufW = s.bufW := rfl
@[simp] theorem writeRes0_bufH (v : Word) (s : State) : (writeRes0 v s).bufH = s.bufH := rfl
@[simp] theorem writeRes0_arg0 (v : Word) (s : State) : (writeRes0 v s).arg0 = s.arg0 := rfl
@[simp] theorem writeRes0_arg1 (v : Word) (s : State) : (writeRes0 v s).arg1 = s.arg1 := rfl
@[simp] theorem writeRes0_res0 (v : Word) (s : State) : (writeRes0 v s).res0 = v := rfl
@[simp] theorem writeRes0_res1 (v : Word) (s : State) : (writeRes0 v s).res1 = s.res1 := rfl
@[simp] theorem writeRes0_res2 (v : Word) (s : State) : (writeRes0 v s).res2 = s.res2 := rfl
@[simp] theorem writeRes0_res3 (v : Word) (s : State) : (writeRes0 v s).res3 = s.res3 := rfl
@[simp] theorem writeRes0_done (v : Word) (s : State) : (writeRes0 v s).done = s.done := rfl
@[simp] theorem writeRes0_err (v : Word) (s : State) : (writeRes0 v s).err = s.err := rfl
@[simp] theorem writeRes0_errcode (v : Word) (s : State) : (writeRes0 v s).errcode = s.errcode := rfl
@[simp] theorem writeRes0_irqEn (v : Word) (s : State) : (writeRes0 v s).irqEn = s.irqEn := rfl
@[simp] theorem writeRes0_maskDepth (v : Word) (s : State) : (writeRes0 v s).maskDepth = s.maskDepth := rfl
@[simp] theorem writeRes0_pixDepth (v : Word) (s : State) : (writeRes0 v s).pixDepth = s.pixDepth := rfl
@[simp] theorem writeRes0_lut (v : Word) (s : State) : (writeRes0 v s).lut = s.lut := rfl
@[simp] theorem writeRes0_mask (v : Word) (s : State) : (writeRes0 v s).mask = s.mask := rfl
@[simp] theorem writeRes0_pix (v : Word) (s : State) : (writeRes0 v s).pix = s.pix := rfl
@[simp] theorem writeRes0_inFlight (v : Word) (s : State) : (writeRes0 v s).inFlight = s.inFlight := rfl
@[simp] theorem writeRes0_inbox (v : Word) (s : State) : (writeRes0 v s).inbox = s.inbox := rfl
@[simp] theorem writeRes0_replies (v : Word) (s : State) : (writeRes0 v s).replies = s.replies := rfl

/-! ### writeRes1 -/

@[simp] theorem writeRes1_ctrl (v : Word) (s : State) : (writeRes1 v s).ctrl = s.ctrl := rfl
@[simp] theorem writeRes1_thresh (v : Word) (s : State) : (writeRes1 v s).thresh = s.thresh := rfl
@[simp] theorem writeRes1_contrastAmount (v : Word) (s : State) : (writeRes1 v s).contrastAmount = s.contrastAmount := rfl
@[simp] theorem writeRes1_cellCols (v : Word) (s : State) : (writeRes1 v s).cellCols = s.cellCols := rfl
@[simp] theorem writeRes1_cellRows (v : Word) (s : State) : (writeRes1 v s).cellRows = s.cellRows := rfl
@[simp] theorem writeRes1_bufW (v : Word) (s : State) : (writeRes1 v s).bufW = s.bufW := rfl
@[simp] theorem writeRes1_bufH (v : Word) (s : State) : (writeRes1 v s).bufH = s.bufH := rfl
@[simp] theorem writeRes1_arg0 (v : Word) (s : State) : (writeRes1 v s).arg0 = s.arg0 := rfl
@[simp] theorem writeRes1_arg1 (v : Word) (s : State) : (writeRes1 v s).arg1 = s.arg1 := rfl
@[simp] theorem writeRes1_res0 (v : Word) (s : State) : (writeRes1 v s).res0 = s.res0 := rfl
@[simp] theorem writeRes1_res1 (v : Word) (s : State) : (writeRes1 v s).res1 = v := rfl
@[simp] theorem writeRes1_res2 (v : Word) (s : State) : (writeRes1 v s).res2 = s.res2 := rfl
@[simp] theorem writeRes1_res3 (v : Word) (s : State) : (writeRes1 v s).res3 = s.res3 := rfl
@[simp] theorem writeRes1_done (v : Word) (s : State) : (writeRes1 v s).done = s.done := rfl
@[simp] theorem writeRes1_err (v : Word) (s : State) : (writeRes1 v s).err = s.err := rfl
@[simp] theorem writeRes1_errcode (v : Word) (s : State) : (writeRes1 v s).errcode = s.errcode := rfl
@[simp] theorem writeRes1_irqEn (v : Word) (s : State) : (writeRes1 v s).irqEn = s.irqEn := rfl
@[simp] theorem writeRes1_maskDepth (v : Word) (s : State) : (writeRes1 v s).maskDepth = s.maskDepth := rfl
@[simp] theorem writeRes1_pixDepth (v : Word) (s : State) : (writeRes1 v s).pixDepth = s.pixDepth := rfl
@[simp] theorem writeRes1_lut (v : Word) (s : State) : (writeRes1 v s).lut = s.lut := rfl
@[simp] theorem writeRes1_mask (v : Word) (s : State) : (writeRes1 v s).mask = s.mask := rfl
@[simp] theorem writeRes1_pix (v : Word) (s : State) : (writeRes1 v s).pix = s.pix := rfl
@[simp] theorem writeRes1_inFlight (v : Word) (s : State) : (writeRes1 v s).inFlight = s.inFlight := rfl
@[simp] theorem writeRes1_inbox (v : Word) (s : State) : (writeRes1 v s).inbox = s.inbox := rfl
@[simp] theorem writeRes1_replies (v : Word) (s : State) : (writeRes1 v s).replies = s.replies := rfl

/-! ### writeRes2 -/

@[simp] theorem writeRes2_ctrl (v : Word) (s : State) : (writeRes2 v s).ctrl = s.ctrl := rfl
@[simp] theorem writeRes2_thresh (v : Word) (s : State) : (writeRes2 v s).thresh = s.thresh := rfl
@[simp] theorem writeRes2_contrastAmount (v : Word) (s : State) : (writeRes2 v s).contrastAmount = s.contrastAmount := rfl
@[simp] theorem writeRes2_cellCols (v : Word) (s : State) : (writeRes2 v s).cellCols = s.cellCols := rfl
@[simp] theorem writeRes2_cellRows (v : Word) (s : State) : (writeRes2 v s).cellRows = s.cellRows := rfl
@[simp] theorem writeRes2_bufW (v : Word) (s : State) : (writeRes2 v s).bufW = s.bufW := rfl
@[simp] theorem writeRes2_bufH (v : Word) (s : State) : (writeRes2 v s).bufH = s.bufH := rfl
@[simp] theorem writeRes2_arg0 (v : Word) (s : State) : (writeRes2 v s).arg0 = s.arg0 := rfl
@[simp] theorem writeRes2_arg1 (v : Word) (s : State) : (writeRes2 v s).arg1 = s.arg1 := rfl
@[simp] theorem writeRes2_res0 (v : Word) (s : State) : (writeRes2 v s).res0 = s.res0 := rfl
@[simp] theorem writeRes2_res1 (v : Word) (s : State) : (writeRes2 v s).res1 = s.res1 := rfl
@[simp] theorem writeRes2_res2 (v : Word) (s : State) : (writeRes2 v s).res2 = v := rfl
@[simp] theorem writeRes2_res3 (v : Word) (s : State) : (writeRes2 v s).res3 = s.res3 := rfl
@[simp] theorem writeRes2_done (v : Word) (s : State) : (writeRes2 v s).done = s.done := rfl
@[simp] theorem writeRes2_err (v : Word) (s : State) : (writeRes2 v s).err = s.err := rfl
@[simp] theorem writeRes2_errcode (v : Word) (s : State) : (writeRes2 v s).errcode = s.errcode := rfl
@[simp] theorem writeRes2_irqEn (v : Word) (s : State) : (writeRes2 v s).irqEn = s.irqEn := rfl
@[simp] theorem writeRes2_maskDepth (v : Word) (s : State) : (writeRes2 v s).maskDepth = s.maskDepth := rfl
@[simp] theorem writeRes2_pixDepth (v : Word) (s : State) : (writeRes2 v s).pixDepth = s.pixDepth := rfl
@[simp] theorem writeRes2_lut (v : Word) (s : State) : (writeRes2 v s).lut = s.lut := rfl
@[simp] theorem writeRes2_mask (v : Word) (s : State) : (writeRes2 v s).mask = s.mask := rfl
@[simp] theorem writeRes2_pix (v : Word) (s : State) : (writeRes2 v s).pix = s.pix := rfl
@[simp] theorem writeRes2_inFlight (v : Word) (s : State) : (writeRes2 v s).inFlight = s.inFlight := rfl
@[simp] theorem writeRes2_inbox (v : Word) (s : State) : (writeRes2 v s).inbox = s.inbox := rfl
@[simp] theorem writeRes2_replies (v : Word) (s : State) : (writeRes2 v s).replies = s.replies := rfl

/-! ### writeRes3 -/

@[simp] theorem writeRes3_ctrl (v : Word) (s : State) : (writeRes3 v s).ctrl = s.ctrl := rfl
@[simp] theorem writeRes3_thresh (v : Word) (s : State) : (writeRes3 v s).thresh = s.thresh := rfl
@[simp] theorem writeRes3_contrastAmount (v : Word) (s : State) : (writeRes3 v s).contrastAmount = s.contrastAmount := rfl
@[simp] theorem writeRes3_cellCols (v : Word) (s : State) : (writeRes3 v s).cellCols = s.cellCols := rfl
@[simp] theorem writeRes3_cellRows (v : Word) (s : State) : (writeRes3 v s).cellRows = s.cellRows := rfl
@[simp] theorem writeRes3_bufW (v : Word) (s : State) : (writeRes3 v s).bufW = s.bufW := rfl
@[simp] theorem writeRes3_bufH (v : Word) (s : State) : (writeRes3 v s).bufH = s.bufH := rfl
@[simp] theorem writeRes3_arg0 (v : Word) (s : State) : (writeRes3 v s).arg0 = s.arg0 := rfl
@[simp] theorem writeRes3_arg1 (v : Word) (s : State) : (writeRes3 v s).arg1 = s.arg1 := rfl
@[simp] theorem writeRes3_res0 (v : Word) (s : State) : (writeRes3 v s).res0 = s.res0 := rfl
@[simp] theorem writeRes3_res1 (v : Word) (s : State) : (writeRes3 v s).res1 = s.res1 := rfl
@[simp] theorem writeRes3_res2 (v : Word) (s : State) : (writeRes3 v s).res2 = s.res2 := rfl
@[simp] theorem writeRes3_res3 (v : Word) (s : State) : (writeRes3 v s).res3 = v := rfl
@[simp] theorem writeRes3_done (v : Word) (s : State) : (writeRes3 v s).done = s.done := rfl
@[simp] theorem writeRes3_err (v : Word) (s : State) : (writeRes3 v s).err = s.err := rfl
@[simp] theorem writeRes3_errcode (v : Word) (s : State) : (writeRes3 v s).errcode = s.errcode := rfl
@[simp] theorem writeRes3_irqEn (v : Word) (s : State) : (writeRes3 v s).irqEn = s.irqEn := rfl
@[simp] theorem writeRes3_maskDepth (v : Word) (s : State) : (writeRes3 v s).maskDepth = s.maskDepth := rfl
@[simp] theorem writeRes3_pixDepth (v : Word) (s : State) : (writeRes3 v s).pixDepth = s.pixDepth := rfl
@[simp] theorem writeRes3_lut (v : Word) (s : State) : (writeRes3 v s).lut = s.lut := rfl
@[simp] theorem writeRes3_mask (v : Word) (s : State) : (writeRes3 v s).mask = s.mask := rfl
@[simp] theorem writeRes3_pix (v : Word) (s : State) : (writeRes3 v s).pix = s.pix := rfl
@[simp] theorem writeRes3_inFlight (v : Word) (s : State) : (writeRes3 v s).inFlight = s.inFlight := rfl
@[simp] theorem writeRes3_inbox (v : Word) (s : State) : (writeRes3 v s).inbox = s.inbox := rfl
@[simp] theorem writeRes3_replies (v : Word) (s : State) : (writeRes3 v s).replies = s.replies := rfl

/-! ### raiseError -/

@[simp] theorem raiseError_ctrl (cause : ErrCause) (s : State) : (raiseError cause s).ctrl = s.ctrl := rfl
@[simp] theorem raiseError_thresh (cause : ErrCause) (s : State) : (raiseError cause s).thresh = s.thresh := rfl
@[simp] theorem raiseError_contrastAmount (cause : ErrCause) (s : State) : (raiseError cause s).contrastAmount = s.contrastAmount := rfl
@[simp] theorem raiseError_cellCols (cause : ErrCause) (s : State) : (raiseError cause s).cellCols = s.cellCols := rfl
@[simp] theorem raiseError_cellRows (cause : ErrCause) (s : State) : (raiseError cause s).cellRows = s.cellRows := rfl
@[simp] theorem raiseError_bufW (cause : ErrCause) (s : State) : (raiseError cause s).bufW = s.bufW := rfl
@[simp] theorem raiseError_bufH (cause : ErrCause) (s : State) : (raiseError cause s).bufH = s.bufH := rfl
@[simp] theorem raiseError_arg0 (cause : ErrCause) (s : State) : (raiseError cause s).arg0 = s.arg0 := rfl
@[simp] theorem raiseError_arg1 (cause : ErrCause) (s : State) : (raiseError cause s).arg1 = s.arg1 := rfl
@[simp] theorem raiseError_res0 (cause : ErrCause) (s : State) : (raiseError cause s).res0 = s.res0 := rfl
@[simp] theorem raiseError_res1 (cause : ErrCause) (s : State) : (raiseError cause s).res1 = s.res1 := rfl
@[simp] theorem raiseError_res2 (cause : ErrCause) (s : State) : (raiseError cause s).res2 = s.res2 := rfl
@[simp] theorem raiseError_res3 (cause : ErrCause) (s : State) : (raiseError cause s).res3 = s.res3 := rfl
@[simp] theorem raiseError_done (cause : ErrCause) (s : State) : (raiseError cause s).done = s.done := rfl
@[simp] theorem raiseError_err (cause : ErrCause) (s : State) : (raiseError cause s).err = true := rfl
@[simp] theorem raiseError_errcode (cause : ErrCause) (s : State) : (raiseError cause s).errcode = if s.err then s.errcode else cause.code := rfl
@[simp] theorem raiseError_irqEn (cause : ErrCause) (s : State) : (raiseError cause s).irqEn = s.irqEn := rfl
@[simp] theorem raiseError_maskDepth (cause : ErrCause) (s : State) : (raiseError cause s).maskDepth = s.maskDepth := rfl
@[simp] theorem raiseError_pixDepth (cause : ErrCause) (s : State) : (raiseError cause s).pixDepth = s.pixDepth := rfl
@[simp] theorem raiseError_lut (cause : ErrCause) (s : State) : (raiseError cause s).lut = s.lut := rfl
@[simp] theorem raiseError_mask (cause : ErrCause) (s : State) : (raiseError cause s).mask = s.mask := rfl
@[simp] theorem raiseError_pix (cause : ErrCause) (s : State) : (raiseError cause s).pix = s.pix := rfl
@[simp] theorem raiseError_inFlight (cause : ErrCause) (s : State) : (raiseError cause s).inFlight = s.inFlight := rfl
@[simp] theorem raiseError_inbox (cause : ErrCause) (s : State) : (raiseError cause s).inbox = s.inbox := rfl
@[simp] theorem raiseError_replies (cause : ErrCause) (s : State) : (raiseError cause s).replies = s.replies := rfl

/-! ### acknowledge -/

@[simp] theorem acknowledge_ctrl (v : Word) (s : State) : (acknowledge v s).ctrl = s.ctrl := rfl
@[simp] theorem acknowledge_thresh (v : Word) (s : State) : (acknowledge v s).thresh = s.thresh := rfl
@[simp] theorem acknowledge_contrastAmount (v : Word) (s : State) : (acknowledge v s).contrastAmount = s.contrastAmount := rfl
@[simp] theorem acknowledge_cellCols (v : Word) (s : State) : (acknowledge v s).cellCols = s.cellCols := rfl
@[simp] theorem acknowledge_cellRows (v : Word) (s : State) : (acknowledge v s).cellRows = s.cellRows := rfl
@[simp] theorem acknowledge_bufW (v : Word) (s : State) : (acknowledge v s).bufW = s.bufW := rfl
@[simp] theorem acknowledge_bufH (v : Word) (s : State) : (acknowledge v s).bufH = s.bufH := rfl
@[simp] theorem acknowledge_arg0 (v : Word) (s : State) : (acknowledge v s).arg0 = s.arg0 := rfl
@[simp] theorem acknowledge_arg1 (v : Word) (s : State) : (acknowledge v s).arg1 = s.arg1 := rfl
@[simp] theorem acknowledge_res0 (v : Word) (s : State) : (acknowledge v s).res0 = s.res0 := rfl
@[simp] theorem acknowledge_res1 (v : Word) (s : State) : (acknowledge v s).res1 = s.res1 := rfl
@[simp] theorem acknowledge_res2 (v : Word) (s : State) : (acknowledge v s).res2 = s.res2 := rfl
@[simp] theorem acknowledge_res3 (v : Word) (s : State) : (acknowledge v s).res3 = s.res3 := rfl
@[simp] theorem acknowledge_done (v : Word) (s : State) : (acknowledge v s).done = (s.done && !v.getLsbD 1) := rfl
@[simp] theorem acknowledge_err (v : Word) (s : State) : (acknowledge v s).err = (s.err && !v.getLsbD 2) := rfl
@[simp] theorem acknowledge_errcode (v : Word) (s : State) : (acknowledge v s).errcode = if v.getLsbD 2 then 0#4 else s.errcode := rfl
@[simp] theorem acknowledge_irqEn (v : Word) (s : State) : (acknowledge v s).irqEn = s.irqEn := rfl
@[simp] theorem acknowledge_maskDepth (v : Word) (s : State) : (acknowledge v s).maskDepth = s.maskDepth := rfl
@[simp] theorem acknowledge_pixDepth (v : Word) (s : State) : (acknowledge v s).pixDepth = s.pixDepth := rfl
@[simp] theorem acknowledge_lut (v : Word) (s : State) : (acknowledge v s).lut = s.lut := rfl
@[simp] theorem acknowledge_mask (v : Word) (s : State) : (acknowledge v s).mask = s.mask := rfl
@[simp] theorem acknowledge_pix (v : Word) (s : State) : (acknowledge v s).pix = s.pix := rfl
@[simp] theorem acknowledge_inFlight (v : Word) (s : State) : (acknowledge v s).inFlight = s.inFlight := rfl
@[simp] theorem acknowledge_inbox (v : Word) (s : State) : (acknowledge v s).inbox = s.inbox := rfl
@[simp] theorem acknowledge_replies (v : Word) (s : State) : (acknowledge v s).replies = s.replies := rfl

/-! ### startCommand -/

@[simp] theorem startCommand_ctrl (w : Word) (s : State) : (startCommand w s).ctrl = s.ctrl := rfl
@[simp] theorem startCommand_thresh (w : Word) (s : State) : (startCommand w s).thresh = s.thresh := rfl
@[simp] theorem startCommand_contrastAmount (w : Word) (s : State) : (startCommand w s).contrastAmount = s.contrastAmount := rfl
@[simp] theorem startCommand_cellCols (w : Word) (s : State) : (startCommand w s).cellCols = s.cellCols := rfl
@[simp] theorem startCommand_cellRows (w : Word) (s : State) : (startCommand w s).cellRows = s.cellRows := rfl
@[simp] theorem startCommand_bufW (w : Word) (s : State) : (startCommand w s).bufW = s.bufW := rfl
@[simp] theorem startCommand_bufH (w : Word) (s : State) : (startCommand w s).bufH = s.bufH := rfl
@[simp] theorem startCommand_arg0 (w : Word) (s : State) : (startCommand w s).arg0 = s.arg0 := rfl
@[simp] theorem startCommand_arg1 (w : Word) (s : State) : (startCommand w s).arg1 = s.arg1 := rfl
@[simp] theorem startCommand_res0 (w : Word) (s : State) : (startCommand w s).res0 = s.res0 := rfl
@[simp] theorem startCommand_res1 (w : Word) (s : State) : (startCommand w s).res1 = s.res1 := rfl
@[simp] theorem startCommand_res2 (w : Word) (s : State) : (startCommand w s).res2 = s.res2 := rfl
@[simp] theorem startCommand_res3 (w : Word) (s : State) : (startCommand w s).res3 = s.res3 := rfl
@[simp] theorem startCommand_done (w : Word) (s : State) : (startCommand w s).done = s.done := rfl
@[simp] theorem startCommand_err (w : Word) (s : State) : (startCommand w s).err = s.err := rfl
@[simp] theorem startCommand_errcode (w : Word) (s : State) : (startCommand w s).errcode = s.errcode := rfl
@[simp] theorem startCommand_irqEn (w : Word) (s : State) : (startCommand w s).irqEn = s.irqEn := rfl
@[simp] theorem startCommand_maskDepth (w : Word) (s : State) : (startCommand w s).maskDepth = s.maskDepth := rfl
@[simp] theorem startCommand_pixDepth (w : Word) (s : State) : (startCommand w s).pixDepth = s.pixDepth := rfl
@[simp] theorem startCommand_lut (w : Word) (s : State) : (startCommand w s).lut = s.lut := rfl
@[simp] theorem startCommand_mask (w : Word) (s : State) : (startCommand w s).mask = s.mask := rfl
@[simp] theorem startCommand_pix (w : Word) (s : State) : (startCommand w s).pix = s.pix := rfl
@[simp] theorem startCommand_inFlight (w : Word) (s : State) : (startCommand w s).inFlight = some w := rfl
@[simp] theorem startCommand_inbox (w : Word) (s : State) : (startCommand w s).inbox = s.inbox := rfl
@[simp] theorem startCommand_replies (w : Word) (s : State) : (startCommand w s).replies = s.replies := rfl

/-! ### complete -/

@[simp] theorem complete_ctrl (s : State) : (complete s).ctrl = s.ctrl := rfl
@[simp] theorem complete_thresh (s : State) : (complete s).thresh = s.thresh := rfl
@[simp] theorem complete_contrastAmount (s : State) : (complete s).contrastAmount = s.contrastAmount := rfl
@[simp] theorem complete_cellCols (s : State) : (complete s).cellCols = s.cellCols := rfl
@[simp] theorem complete_cellRows (s : State) : (complete s).cellRows = s.cellRows := rfl
@[simp] theorem complete_bufW (s : State) : (complete s).bufW = s.bufW := rfl
@[simp] theorem complete_bufH (s : State) : (complete s).bufH = s.bufH := rfl
@[simp] theorem complete_arg0 (s : State) : (complete s).arg0 = s.arg0 := rfl
@[simp] theorem complete_arg1 (s : State) : (complete s).arg1 = s.arg1 := rfl
@[simp] theorem complete_res0 (s : State) : (complete s).res0 = s.res0 := rfl
@[simp] theorem complete_res1 (s : State) : (complete s).res1 = s.res1 := rfl
@[simp] theorem complete_res2 (s : State) : (complete s).res2 = s.res2 := rfl
@[simp] theorem complete_res3 (s : State) : (complete s).res3 = s.res3 := rfl
@[simp] theorem complete_done (s : State) : (complete s).done = true := rfl
@[simp] theorem complete_err (s : State) : (complete s).err = s.err := rfl
@[simp] theorem complete_errcode (s : State) : (complete s).errcode = s.errcode := rfl
@[simp] theorem complete_irqEn (s : State) : (complete s).irqEn = s.irqEn := rfl
@[simp] theorem complete_maskDepth (s : State) : (complete s).maskDepth = s.maskDepth := rfl
@[simp] theorem complete_pixDepth (s : State) : (complete s).pixDepth = s.pixDepth := rfl
@[simp] theorem complete_lut (s : State) : (complete s).lut = s.lut := rfl
@[simp] theorem complete_mask (s : State) : (complete s).mask = s.mask := rfl
@[simp] theorem complete_pix (s : State) : (complete s).pix = s.pix := rfl
@[simp] theorem complete_inFlight (s : State) : (complete s).inFlight = none := rfl
@[simp] theorem complete_inbox (s : State) : (complete s).inbox = s.inbox := rfl
@[simp] theorem complete_replies (s : State) : (complete s).replies = s.replies := rfl

/-! ### reply -/

@[simp] theorem reply_ctrl (v : Word) (s : State) : (reply v s).ctrl = s.ctrl := rfl
@[simp] theorem reply_thresh (v : Word) (s : State) : (reply v s).thresh = s.thresh := rfl
@[simp] theorem reply_contrastAmount (v : Word) (s : State) : (reply v s).contrastAmount = s.contrastAmount := rfl
@[simp] theorem reply_cellCols (v : Word) (s : State) : (reply v s).cellCols = s.cellCols := rfl
@[simp] theorem reply_cellRows (v : Word) (s : State) : (reply v s).cellRows = s.cellRows := rfl
@[simp] theorem reply_bufW (v : Word) (s : State) : (reply v s).bufW = s.bufW := rfl
@[simp] theorem reply_bufH (v : Word) (s : State) : (reply v s).bufH = s.bufH := rfl
@[simp] theorem reply_arg0 (v : Word) (s : State) : (reply v s).arg0 = s.arg0 := rfl
@[simp] theorem reply_arg1 (v : Word) (s : State) : (reply v s).arg1 = s.arg1 := rfl
@[simp] theorem reply_res0 (v : Word) (s : State) : (reply v s).res0 = s.res0 := rfl
@[simp] theorem reply_res1 (v : Word) (s : State) : (reply v s).res1 = s.res1 := rfl
@[simp] theorem reply_res2 (v : Word) (s : State) : (reply v s).res2 = s.res2 := rfl
@[simp] theorem reply_res3 (v : Word) (s : State) : (reply v s).res3 = s.res3 := rfl
@[simp] theorem reply_done (v : Word) (s : State) : (reply v s).done = s.done := rfl
@[simp] theorem reply_err (v : Word) (s : State) : (reply v s).err = s.err := rfl
@[simp] theorem reply_errcode (v : Word) (s : State) : (reply v s).errcode = s.errcode := rfl
@[simp] theorem reply_irqEn (v : Word) (s : State) : (reply v s).irqEn = s.irqEn := rfl
@[simp] theorem reply_maskDepth (v : Word) (s : State) : (reply v s).maskDepth = s.maskDepth := rfl
@[simp] theorem reply_pixDepth (v : Word) (s : State) : (reply v s).pixDepth = s.pixDepth := rfl
@[simp] theorem reply_lut (v : Word) (s : State) : (reply v s).lut = s.lut := rfl
@[simp] theorem reply_mask (v : Word) (s : State) : (reply v s).mask = s.mask := rfl
@[simp] theorem reply_pix (v : Word) (s : State) : (reply v s).pix = s.pix := rfl
@[simp] theorem reply_inFlight (v : Word) (s : State) : (reply v s).inFlight = s.inFlight := rfl
@[simp] theorem reply_inbox (v : Word) (s : State) : (reply v s).inbox = s.inbox := rfl
@[simp] theorem reply_replies (v : Word) (s : State) : (reply v s).replies = s.replies ++ [v] := rfl

/-! ### setInbox -/

@[simp] theorem setInbox_ctrl (events : List Event) (s : State) : (setInbox events s).ctrl = s.ctrl := rfl
@[simp] theorem setInbox_thresh (events : List Event) (s : State) : (setInbox events s).thresh = s.thresh := rfl
@[simp] theorem setInbox_contrastAmount (events : List Event) (s : State) : (setInbox events s).contrastAmount = s.contrastAmount := rfl
@[simp] theorem setInbox_cellCols (events : List Event) (s : State) : (setInbox events s).cellCols = s.cellCols := rfl
@[simp] theorem setInbox_cellRows (events : List Event) (s : State) : (setInbox events s).cellRows = s.cellRows := rfl
@[simp] theorem setInbox_bufW (events : List Event) (s : State) : (setInbox events s).bufW = s.bufW := rfl
@[simp] theorem setInbox_bufH (events : List Event) (s : State) : (setInbox events s).bufH = s.bufH := rfl
@[simp] theorem setInbox_arg0 (events : List Event) (s : State) : (setInbox events s).arg0 = s.arg0 := rfl
@[simp] theorem setInbox_arg1 (events : List Event) (s : State) : (setInbox events s).arg1 = s.arg1 := rfl
@[simp] theorem setInbox_res0 (events : List Event) (s : State) : (setInbox events s).res0 = s.res0 := rfl
@[simp] theorem setInbox_res1 (events : List Event) (s : State) : (setInbox events s).res1 = s.res1 := rfl
@[simp] theorem setInbox_res2 (events : List Event) (s : State) : (setInbox events s).res2 = s.res2 := rfl
@[simp] theorem setInbox_res3 (events : List Event) (s : State) : (setInbox events s).res3 = s.res3 := rfl
@[simp] theorem setInbox_done (events : List Event) (s : State) : (setInbox events s).done = s.done := rfl
@[simp] theorem setInbox_err (events : List Event) (s : State) : (setInbox events s).err = s.err := rfl
@[simp] theorem setInbox_errcode (events : List Event) (s : State) : (setInbox events s).errcode = s.errcode := rfl
@[simp] theorem setInbox_irqEn (events : List Event) (s : State) : (setInbox events s).irqEn = s.irqEn := rfl
@[simp] theorem setInbox_maskDepth (events : List Event) (s : State) : (setInbox events s).maskDepth = s.maskDepth := rfl
@[simp] theorem setInbox_pixDepth (events : List Event) (s : State) : (setInbox events s).pixDepth = s.pixDepth := rfl
@[simp] theorem setInbox_lut (events : List Event) (s : State) : (setInbox events s).lut = s.lut := rfl
@[simp] theorem setInbox_mask (events : List Event) (s : State) : (setInbox events s).mask = s.mask := rfl
@[simp] theorem setInbox_pix (events : List Event) (s : State) : (setInbox events s).pix = s.pix := rfl
@[simp] theorem setInbox_inFlight (events : List Event) (s : State) : (setInbox events s).inFlight = s.inFlight := rfl
@[simp] theorem setInbox_inbox (events : List Event) (s : State) : (setInbox events s).inbox = events := rfl
@[simp] theorem setInbox_replies (events : List Event) (s : State) : (setInbox events s).replies = s.replies := rfl

/-! ### lutWrite: geometry and operands -/

@[simp] theorem lutWrite_cols (c : Nat) (v : Byte) (s : State) : (lutWrite c v s).cols = s.cols := rfl
@[simp] theorem lutWrite_rows (c : Nat) (v : Byte) (s : State) : (lutWrite c v s).rows = s.rows := rfl
@[simp] theorem lutWrite_width (c : Nat) (v : Byte) (s : State) : (lutWrite c v s).width = s.width := rfl
@[simp] theorem lutWrite_height (c : Nat) (v : Byte) (s : State) : (lutWrite c v s).height = s.height := rfl
@[simp] theorem lutWrite_pixelCount (c : Nat) (v : Byte) (s : State) : (lutWrite c v s).pixelCount = s.pixelCount := rfl
@[simp] theorem lutWrite_cellCount (c : Nat) (v : Byte) (s : State) : (lutWrite c v s).cellCount = s.cellCount := rfl
@[simp] theorem lutWrite_coveredW (c : Nat) (v : Byte) (s : State) : (lutWrite c v s).coveredW = s.coveredW := rfl
@[simp] theorem lutWrite_coveredH (c : Nat) (v : Byte) (s : State) : (lutWrite c v s).coveredH = s.coveredH := rfl
@[simp] theorem lutWrite_geomOk (c : Nat) (v : Byte) (s : State) : (lutWrite c v s).geomOk = s.geomOk := rfl
@[simp] theorem lutWrite_invert (c : Nat) (v : Byte) (s : State) : (lutWrite c v s).invert = s.invert := rfl
@[simp] theorem lutWrite_contrastEn (c : Nat) (v : Byte) (s : State) : (lutWrite c v s).contrastEn = s.contrastEn := rfl
@[simp] theorem lutWrite_amount (c : Nat) (v : Byte) (s : State) : (lutWrite c v s).amount = s.amount := rfl
@[simp] theorem lutWrite_arg0Index (c : Nat) (v : Byte) (s : State) : (lutWrite c v s).arg0Index = s.arg0Index := rfl
@[simp] theorem lutWrite_covered (c : Nat) (v : Byte) (s : State) (x y : Nat) : (lutWrite c v s).covered x y = s.covered x y := rfl
@[simp] theorem lutWrite_pixelIndex (c : Nat) (v : Byte) (s : State) (x y : Nat) : (lutWrite c v s).pixelIndex x y = s.pixelIndex x y := rfl
@[simp] theorem lutWrite_cellIndex (c : Nat) (v : Byte) (s : State) (x y : Nat) : (lutWrite c v s).cellIndex x y = s.cellIndex x y := rfl
@[simp] theorem lutWrite_dotOn (c : Nat) (v : Byte) (s : State) (w : Word) : (lutWrite c v s).dotOn w = s.dotOn w := rfl

/-! ### maskWrite: geometry and operands -/

@[simp] theorem maskWrite_cols (i : Nat) (v : Byte) (s : State) : (maskWrite i v s).cols = s.cols := rfl
@[simp] theorem maskWrite_rows (i : Nat) (v : Byte) (s : State) : (maskWrite i v s).rows = s.rows := rfl
@[simp] theorem maskWrite_width (i : Nat) (v : Byte) (s : State) : (maskWrite i v s).width = s.width := rfl
@[simp] theorem maskWrite_height (i : Nat) (v : Byte) (s : State) : (maskWrite i v s).height = s.height := rfl
@[simp] theorem maskWrite_pixelCount (i : Nat) (v : Byte) (s : State) : (maskWrite i v s).pixelCount = s.pixelCount := rfl
@[simp] theorem maskWrite_cellCount (i : Nat) (v : Byte) (s : State) : (maskWrite i v s).cellCount = s.cellCount := rfl
@[simp] theorem maskWrite_coveredW (i : Nat) (v : Byte) (s : State) : (maskWrite i v s).coveredW = s.coveredW := rfl
@[simp] theorem maskWrite_coveredH (i : Nat) (v : Byte) (s : State) : (maskWrite i v s).coveredH = s.coveredH := rfl
@[simp] theorem maskWrite_geomOk (i : Nat) (v : Byte) (s : State) : (maskWrite i v s).geomOk = s.geomOk := rfl
@[simp] theorem maskWrite_invert (i : Nat) (v : Byte) (s : State) : (maskWrite i v s).invert = s.invert := rfl
@[simp] theorem maskWrite_contrastEn (i : Nat) (v : Byte) (s : State) : (maskWrite i v s).contrastEn = s.contrastEn := rfl
@[simp] theorem maskWrite_amount (i : Nat) (v : Byte) (s : State) : (maskWrite i v s).amount = s.amount := rfl
@[simp] theorem maskWrite_arg0Index (i : Nat) (v : Byte) (s : State) : (maskWrite i v s).arg0Index = s.arg0Index := rfl
@[simp] theorem maskWrite_covered (i : Nat) (v : Byte) (s : State) (x y : Nat) : (maskWrite i v s).covered x y = s.covered x y := rfl
@[simp] theorem maskWrite_pixelIndex (i : Nat) (v : Byte) (s : State) (x y : Nat) : (maskWrite i v s).pixelIndex x y = s.pixelIndex x y := rfl
@[simp] theorem maskWrite_cellIndex (i : Nat) (v : Byte) (s : State) (x y : Nat) : (maskWrite i v s).cellIndex x y = s.cellIndex x y := rfl
@[simp] theorem maskWrite_dotOn (i : Nat) (v : Byte) (s : State) (w : Word) : (maskWrite i v s).dotOn w = s.dotOn w := rfl

/-! ### pixWrite: geometry and operands -/

@[simp] theorem pixWrite_cols (p : Nat) (v : Word) (s : State) : (pixWrite p v s).cols = s.cols := rfl
@[simp] theorem pixWrite_rows (p : Nat) (v : Word) (s : State) : (pixWrite p v s).rows = s.rows := rfl
@[simp] theorem pixWrite_width (p : Nat) (v : Word) (s : State) : (pixWrite p v s).width = s.width := rfl
@[simp] theorem pixWrite_height (p : Nat) (v : Word) (s : State) : (pixWrite p v s).height = s.height := rfl
@[simp] theorem pixWrite_pixelCount (p : Nat) (v : Word) (s : State) : (pixWrite p v s).pixelCount = s.pixelCount := rfl
@[simp] theorem pixWrite_cellCount (p : Nat) (v : Word) (s : State) : (pixWrite p v s).cellCount = s.cellCount := rfl
@[simp] theorem pixWrite_coveredW (p : Nat) (v : Word) (s : State) : (pixWrite p v s).coveredW = s.coveredW := rfl
@[simp] theorem pixWrite_coveredH (p : Nat) (v : Word) (s : State) : (pixWrite p v s).coveredH = s.coveredH := rfl
@[simp] theorem pixWrite_geomOk (p : Nat) (v : Word) (s : State) : (pixWrite p v s).geomOk = s.geomOk := rfl
@[simp] theorem pixWrite_invert (p : Nat) (v : Word) (s : State) : (pixWrite p v s).invert = s.invert := rfl
@[simp] theorem pixWrite_contrastEn (p : Nat) (v : Word) (s : State) : (pixWrite p v s).contrastEn = s.contrastEn := rfl
@[simp] theorem pixWrite_amount (p : Nat) (v : Word) (s : State) : (pixWrite p v s).amount = s.amount := rfl
@[simp] theorem pixWrite_arg0Index (p : Nat) (v : Word) (s : State) : (pixWrite p v s).arg0Index = s.arg0Index := rfl
@[simp] theorem pixWrite_covered (p : Nat) (v : Word) (s : State) (x y : Nat) : (pixWrite p v s).covered x y = s.covered x y := rfl
@[simp] theorem pixWrite_pixelIndex (p : Nat) (v : Word) (s : State) (x y : Nat) : (pixWrite p v s).pixelIndex x y = s.pixelIndex x y := rfl
@[simp] theorem pixWrite_cellIndex (p : Nat) (v : Word) (s : State) (x y : Nat) : (pixWrite p v s).cellIndex x y = s.cellIndex x y := rfl
@[simp] theorem pixWrite_dotOn (p : Nat) (v : Word) (s : State) (w : Word) : (pixWrite p v s).dotOn w = s.dotOn w := rfl

/-! ### writeRes0: geometry and operands -/

@[simp] theorem writeRes0_cols (v : Word) (s : State) : (writeRes0 v s).cols = s.cols := rfl
@[simp] theorem writeRes0_rows (v : Word) (s : State) : (writeRes0 v s).rows = s.rows := rfl
@[simp] theorem writeRes0_width (v : Word) (s : State) : (writeRes0 v s).width = s.width := rfl
@[simp] theorem writeRes0_height (v : Word) (s : State) : (writeRes0 v s).height = s.height := rfl
@[simp] theorem writeRes0_pixelCount (v : Word) (s : State) : (writeRes0 v s).pixelCount = s.pixelCount := rfl
@[simp] theorem writeRes0_cellCount (v : Word) (s : State) : (writeRes0 v s).cellCount = s.cellCount := rfl
@[simp] theorem writeRes0_coveredW (v : Word) (s : State) : (writeRes0 v s).coveredW = s.coveredW := rfl
@[simp] theorem writeRes0_coveredH (v : Word) (s : State) : (writeRes0 v s).coveredH = s.coveredH := rfl
@[simp] theorem writeRes0_geomOk (v : Word) (s : State) : (writeRes0 v s).geomOk = s.geomOk := rfl
@[simp] theorem writeRes0_invert (v : Word) (s : State) : (writeRes0 v s).invert = s.invert := rfl
@[simp] theorem writeRes0_contrastEn (v : Word) (s : State) : (writeRes0 v s).contrastEn = s.contrastEn := rfl
@[simp] theorem writeRes0_amount (v : Word) (s : State) : (writeRes0 v s).amount = s.amount := rfl
@[simp] theorem writeRes0_arg0Index (v : Word) (s : State) : (writeRes0 v s).arg0Index = s.arg0Index := rfl
@[simp] theorem writeRes0_covered (v : Word) (s : State) (x y : Nat) : (writeRes0 v s).covered x y = s.covered x y := rfl
@[simp] theorem writeRes0_pixelIndex (v : Word) (s : State) (x y : Nat) : (writeRes0 v s).pixelIndex x y = s.pixelIndex x y := rfl
@[simp] theorem writeRes0_cellIndex (v : Word) (s : State) (x y : Nat) : (writeRes0 v s).cellIndex x y = s.cellIndex x y := rfl
@[simp] theorem writeRes0_dotOn (v : Word) (s : State) (w : Word) : (writeRes0 v s).dotOn w = s.dotOn w := rfl

/-! ### writeRes1: geometry and operands -/

@[simp] theorem writeRes1_cols (v : Word) (s : State) : (writeRes1 v s).cols = s.cols := rfl
@[simp] theorem writeRes1_rows (v : Word) (s : State) : (writeRes1 v s).rows = s.rows := rfl
@[simp] theorem writeRes1_width (v : Word) (s : State) : (writeRes1 v s).width = s.width := rfl
@[simp] theorem writeRes1_height (v : Word) (s : State) : (writeRes1 v s).height = s.height := rfl
@[simp] theorem writeRes1_pixelCount (v : Word) (s : State) : (writeRes1 v s).pixelCount = s.pixelCount := rfl
@[simp] theorem writeRes1_cellCount (v : Word) (s : State) : (writeRes1 v s).cellCount = s.cellCount := rfl
@[simp] theorem writeRes1_coveredW (v : Word) (s : State) : (writeRes1 v s).coveredW = s.coveredW := rfl
@[simp] theorem writeRes1_coveredH (v : Word) (s : State) : (writeRes1 v s).coveredH = s.coveredH := rfl
@[simp] theorem writeRes1_geomOk (v : Word) (s : State) : (writeRes1 v s).geomOk = s.geomOk := rfl
@[simp] theorem writeRes1_invert (v : Word) (s : State) : (writeRes1 v s).invert = s.invert := rfl
@[simp] theorem writeRes1_contrastEn (v : Word) (s : State) : (writeRes1 v s).contrastEn = s.contrastEn := rfl
@[simp] theorem writeRes1_amount (v : Word) (s : State) : (writeRes1 v s).amount = s.amount := rfl
@[simp] theorem writeRes1_arg0Index (v : Word) (s : State) : (writeRes1 v s).arg0Index = s.arg0Index := rfl
@[simp] theorem writeRes1_covered (v : Word) (s : State) (x y : Nat) : (writeRes1 v s).covered x y = s.covered x y := rfl
@[simp] theorem writeRes1_pixelIndex (v : Word) (s : State) (x y : Nat) : (writeRes1 v s).pixelIndex x y = s.pixelIndex x y := rfl
@[simp] theorem writeRes1_cellIndex (v : Word) (s : State) (x y : Nat) : (writeRes1 v s).cellIndex x y = s.cellIndex x y := rfl
@[simp] theorem writeRes1_dotOn (v : Word) (s : State) (w : Word) : (writeRes1 v s).dotOn w = s.dotOn w := rfl

/-! ### writeRes2: geometry and operands -/

@[simp] theorem writeRes2_cols (v : Word) (s : State) : (writeRes2 v s).cols = s.cols := rfl
@[simp] theorem writeRes2_rows (v : Word) (s : State) : (writeRes2 v s).rows = s.rows := rfl
@[simp] theorem writeRes2_width (v : Word) (s : State) : (writeRes2 v s).width = s.width := rfl
@[simp] theorem writeRes2_height (v : Word) (s : State) : (writeRes2 v s).height = s.height := rfl
@[simp] theorem writeRes2_pixelCount (v : Word) (s : State) : (writeRes2 v s).pixelCount = s.pixelCount := rfl
@[simp] theorem writeRes2_cellCount (v : Word) (s : State) : (writeRes2 v s).cellCount = s.cellCount := rfl
@[simp] theorem writeRes2_coveredW (v : Word) (s : State) : (writeRes2 v s).coveredW = s.coveredW := rfl
@[simp] theorem writeRes2_coveredH (v : Word) (s : State) : (writeRes2 v s).coveredH = s.coveredH := rfl
@[simp] theorem writeRes2_geomOk (v : Word) (s : State) : (writeRes2 v s).geomOk = s.geomOk := rfl
@[simp] theorem writeRes2_invert (v : Word) (s : State) : (writeRes2 v s).invert = s.invert := rfl
@[simp] theorem writeRes2_contrastEn (v : Word) (s : State) : (writeRes2 v s).contrastEn = s.contrastEn := rfl
@[simp] theorem writeRes2_amount (v : Word) (s : State) : (writeRes2 v s).amount = s.amount := rfl
@[simp] theorem writeRes2_arg0Index (v : Word) (s : State) : (writeRes2 v s).arg0Index = s.arg0Index := rfl
@[simp] theorem writeRes2_covered (v : Word) (s : State) (x y : Nat) : (writeRes2 v s).covered x y = s.covered x y := rfl
@[simp] theorem writeRes2_pixelIndex (v : Word) (s : State) (x y : Nat) : (writeRes2 v s).pixelIndex x y = s.pixelIndex x y := rfl
@[simp] theorem writeRes2_cellIndex (v : Word) (s : State) (x y : Nat) : (writeRes2 v s).cellIndex x y = s.cellIndex x y := rfl
@[simp] theorem writeRes2_dotOn (v : Word) (s : State) (w : Word) : (writeRes2 v s).dotOn w = s.dotOn w := rfl

/-! ### writeRes3: geometry and operands -/

@[simp] theorem writeRes3_cols (v : Word) (s : State) : (writeRes3 v s).cols = s.cols := rfl
@[simp] theorem writeRes3_rows (v : Word) (s : State) : (writeRes3 v s).rows = s.rows := rfl
@[simp] theorem writeRes3_width (v : Word) (s : State) : (writeRes3 v s).width = s.width := rfl
@[simp] theorem writeRes3_height (v : Word) (s : State) : (writeRes3 v s).height = s.height := rfl
@[simp] theorem writeRes3_pixelCount (v : Word) (s : State) : (writeRes3 v s).pixelCount = s.pixelCount := rfl
@[simp] theorem writeRes3_cellCount (v : Word) (s : State) : (writeRes3 v s).cellCount = s.cellCount := rfl
@[simp] theorem writeRes3_coveredW (v : Word) (s : State) : (writeRes3 v s).coveredW = s.coveredW := rfl
@[simp] theorem writeRes3_coveredH (v : Word) (s : State) : (writeRes3 v s).coveredH = s.coveredH := rfl
@[simp] theorem writeRes3_geomOk (v : Word) (s : State) : (writeRes3 v s).geomOk = s.geomOk := rfl
@[simp] theorem writeRes3_invert (v : Word) (s : State) : (writeRes3 v s).invert = s.invert := rfl
@[simp] theorem writeRes3_contrastEn (v : Word) (s : State) : (writeRes3 v s).contrastEn = s.contrastEn := rfl
@[simp] theorem writeRes3_amount (v : Word) (s : State) : (writeRes3 v s).amount = s.amount := rfl
@[simp] theorem writeRes3_arg0Index (v : Word) (s : State) : (writeRes3 v s).arg0Index = s.arg0Index := rfl
@[simp] theorem writeRes3_covered (v : Word) (s : State) (x y : Nat) : (writeRes3 v s).covered x y = s.covered x y := rfl
@[simp] theorem writeRes3_pixelIndex (v : Word) (s : State) (x y : Nat) : (writeRes3 v s).pixelIndex x y = s.pixelIndex x y := rfl
@[simp] theorem writeRes3_cellIndex (v : Word) (s : State) (x y : Nat) : (writeRes3 v s).cellIndex x y = s.cellIndex x y := rfl
@[simp] theorem writeRes3_dotOn (v : Word) (s : State) (w : Word) : (writeRes3 v s).dotOn w = s.dotOn w := rfl

/-! ### complete: geometry and operands -/

@[simp] theorem complete_cols (s : State) : (complete s).cols = s.cols := rfl
@[simp] theorem complete_rows (s : State) : (complete s).rows = s.rows := rfl
@[simp] theorem complete_width (s : State) : (complete s).width = s.width := rfl
@[simp] theorem complete_height (s : State) : (complete s).height = s.height := rfl
@[simp] theorem complete_pixelCount (s : State) : (complete s).pixelCount = s.pixelCount := rfl
@[simp] theorem complete_cellCount (s : State) : (complete s).cellCount = s.cellCount := rfl
@[simp] theorem complete_coveredW (s : State) : (complete s).coveredW = s.coveredW := rfl
@[simp] theorem complete_coveredH (s : State) : (complete s).coveredH = s.coveredH := rfl
@[simp] theorem complete_geomOk (s : State) : (complete s).geomOk = s.geomOk := rfl
@[simp] theorem complete_invert (s : State) : (complete s).invert = s.invert := rfl
@[simp] theorem complete_contrastEn (s : State) : (complete s).contrastEn = s.contrastEn := rfl
@[simp] theorem complete_amount (s : State) : (complete s).amount = s.amount := rfl
@[simp] theorem complete_arg0Index (s : State) : (complete s).arg0Index = s.arg0Index := rfl
@[simp] theorem complete_covered (s : State) (x y : Nat) : (complete s).covered x y = s.covered x y := rfl
@[simp] theorem complete_pixelIndex (s : State) (x y : Nat) : (complete s).pixelIndex x y = s.pixelIndex x y := rfl
@[simp] theorem complete_cellIndex (s : State) (x y : Nat) : (complete s).cellIndex x y = s.cellIndex x y := rfl
@[simp] theorem complete_dotOn (s : State) (w : Word) : (complete s).dotOn w = s.dotOn w := rfl

end Sys2Proof.Machine
end

