-- ==== Sys2Proof/Laws/Ops.lean ====
section
/-! SUPPORT. For each shared operation of Machine/Ops.lean, everything it can do, said once. -/

namespace Sys2Proof.Machine

/-! ### Pieces of pseudocode -/

@[simp] theorem Run.bind_ok {α β : Type} (a : α) (f : α → Run β) : (Run.ok a).bind f = f a := rfl

@[simp] theorem Run.bind_raise {α β : Type} (c : ErrCause) (f : α → Run β) : (Run.raise c : Run α).bind f = .raise c := rfl

@[simp] theorem Run.bind_stop {α β : Type} (r : Fault) (f : α → Run β) : (Run.stop r : Run α).bind f = .stop r := rfl

/-- A sequence ends well exactly when both of its parts do. -/
theorem Run.bind_eq_ok {α β : Type} {r : Run α} {f : α → Run β} {b : β} :
    r.bind f = .ok b ↔ ∃ a, r = .ok a ∧ f a = .ok b := by
  cases r <;> simp [Run.bind]

/-- A sequence raises in its first part, or after it in its second. -/
theorem Run.bind_eq_raise {α β : Type} {r : Run α} {f : α → Run β} {c : ErrCause} :
    r.bind f = .raise c ↔ r = .raise c ∨ ∃ a, r = .ok a ∧ f a = .raise c := by
  cases r <;> simp [Run.bind]

/-- A sequence stops in its first part, or after it in its second. -/
theorem Run.bind_eq_stop {α β : Type} {r : Run α} {f : α → Run β} {x : Fault} :
    r.bind f = .stop x ↔ r = .stop x ∨ ∃ a, r = .ok a ∧ f a = .stop x := by
  cases r <;> simp [Run.bind]

theorem Run.bind_assoc {α β γ : Type} (r : Run α) (f : α → Run β) (g : β → Run γ) :
    (r.bind f).bind g = r.bind fun a => (f a).bind g := by
  cases r <;> rfl

@[simp] theorem Run.require_true (c : ErrCause) : Run.require true c = .ok () := rfl

@[simp] theorem Run.require_false (c : ErrCause) : Run.require false c = .raise c := rfl

/-! ### Loops -/

@[simp] theorem forUpTo_zero (body : Nat → State → Run State) (s : State) : forUpTo 0 body s = .ok s := rfl

theorem forUpTo_succ (n : Nat) (body : Nat → State → Run State) (s : State) :
    forUpTo (n + 1) body s = (forUpTo n body s).bind (body n) := rfl

/-- What holds of `s` before the loop and is carried by every turn from `i` to `i + 1` holds after it. -/
theorem forUpTo_induct {n : Nat} {body : Nat → State → Run State} {s t : State} (P : Nat → State → Prop)
    (h0 : P 0 s) (hs : ∀ i a b, i < n → P i a → body i a = .ok b → P (i + 1) b)
    (h : forUpTo n body s = .ok t) : P n t := by
  induction n generalizing t with
  | zero => simp only [forUpTo_zero, Run.ok.injEq] at h; exact h ▸ h0
  | succ n ih =>
    obtain ⟨a, ha, hb⟩ := Run.bind_eq_ok.1 (forUpTo_succ n body s ▸ h)
    exact hs n a t (Nat.lt_succ_self n)
      (ih (fun i x y hi => hs i x y (Nat.lt_succ_of_lt hi)) ha) hb

/-- A property every turn keeps is kept by the loop. -/
theorem forUpTo_keeps {n : Nat} {body : Nat → State → Run State} {s t : State} (P : State → Prop)
    (h0 : P s) (hs : ∀ i a b, i < n → P a → body i a = .ok b → P b) (h : forUpTo n body s = .ok t) : P t :=
  forUpTo_induct (fun _ => P) h0 hs h

/-- If every turn from a state with the invariant ends well and carries the invariant on, so does the loop. -/
theorem forUpTo_completes {n : Nat} {body : Nat → State → Run State} {s : State} (P : Nat → State → Prop)
    (h0 : P 0 s) (hs : ∀ i a, i < n → P i a → ∃ b, body i a = .ok b ∧ P (i + 1) b) :
    ∃ t, forUpTo n body s = .ok t ∧ P n t := by
  induction n with
  | zero => exact ⟨s, rfl, h0⟩
  | succ n ih =>
    obtain ⟨a, ha, hp⟩ := ih (fun i x hi => hs i x (Nat.lt_succ_of_lt hi))
    obtain ⟨b, hb, hq⟩ := hs n a (Nat.lt_succ_self n) hp
    exact ⟨b, by rw [forUpTo_succ, ha, Run.bind_ok, hb], hq⟩

/-- A loop whose turns never raise does not raise. -/
theorem forUpTo_ne_raise {n : Nat} {body : Nat → State → Run State} {s : State} {c : ErrCause}
    (hs : ∀ i a, body i a ≠ .raise c) : forUpTo n body s ≠ .raise c := by
  induction n with
  | zero => simp
  | succ n ih =>
    rw [forUpTo_succ]
    intro h
    rcases Run.bind_eq_raise.1 h with h | ⟨a, _, h⟩
    · exact ih h
    · exact hs n a h

/-! ### Reads -/

/-- `LutRead` gives the entry, or stops at an unwritten one. -/
theorem lutRead_eq_ok {c : Nat} {s : State} {v : Byte} : lutRead c s = .ok v ↔ Memory.read s.lut c = some v := by
  unfold lutRead; split <;> simp_all

/-- `MaskRead` gives the entry, or stops at an unwritten one. -/
theorem maskRead_eq_ok {i : Nat} {s : State} {v : Byte} : maskRead i s = .ok v ↔ Memory.read s.mask i = some v := by
  unfold maskRead; split <;> simp_all

/-- `PixRead` gives the word, or stops at an unwritten one. -/
theorem pixRead_eq_ok {p : Nat} {s : State} {v : Word} : pixRead p s = .ok v ↔ Memory.read s.pix p = some v := by
  unfold pixRead; split <;> simp_all

theorem lutRead_eq_stop {c : Nat} {s : State} {f : Fault} :
    lutRead c s = .stop f ↔ Memory.read s.lut c = none ∧ f = .unwrittenLut c := by
  unfold lutRead; split <;> rename_i h <;> simp [h, @eq_comm _ f]

theorem maskRead_eq_stop {i : Nat} {s : State} {f : Fault} :
    maskRead i s = .stop f ↔ Memory.read s.mask i = none ∧ f = .unwrittenMask i := by
  unfold maskRead; split <;> rename_i h <;> simp [h, @eq_comm _ f]

theorem pixRead_eq_stop {p : Nat} {s : State} {f : Fault} :
    pixRead p s = .stop f ↔ Memory.read s.pix p = none ∧ f = .unwrittenPix p := by
  unfold pixRead; split <;> rename_i h <;> simp [h, @eq_comm _ f]

@[simp] theorem lutRead_ne_raise (c : Nat) (s : State) (e : ErrCause) : lutRead c s ≠ .raise e := by
  unfold lutRead; split <;> simp

@[simp] theorem maskRead_ne_raise (i : Nat) (s : State) (e : ErrCause) : maskRead i s ≠ .raise e := by
  unfold maskRead; split <;> simp

@[simp] theorem pixRead_ne_raise (p : Nat) (s : State) (e : ErrCause) : pixRead p s ≠ .raise e := by
  unfold pixRead; split <;> simp

/-! ### The end of a command -/

@[simp] theorem finish_ok (s t : State) : finish s (.ok t) = .next (complete t) := rfl

@[simp] theorem finish_raise (s : State) (c : ErrCause) : finish s (.raise c) = .next (complete (raiseError c s)) := rfl

@[simp] theorem finish_stop (s : State) (f : Fault) : finish s (.stop f) = .fault f := rfl

/-- A command that answers a next state ended well or raised; an error leaves everything but `STATUS` as it was. -/
theorem finish_eq_next {s t : State} {r : Run State} :
    finish s r = .next t ↔ (∃ u, r = .ok u ∧ t = complete u) ∨ ∃ c, r = .raise c ∧ t = complete (raiseError c s) := by
  cases r <;> simp [finish, eq_comm]

/-- A command stops the model only where its pseudocode met an unwritten entry. -/
theorem finish_eq_fault {s : State} {r : Run State} {f : Fault} : finish s r = .fault f ↔ r = .stop f := by
  cases r <;> simp [finish]

theorem finish_ne_refused (s : State) (r : Run State) (x : Refusal) : finish s r ≠ .refused x := by
  cases r <;> simp [finish]

end Sys2Proof.Machine
end

