-- ==== Sys2Proof/Laws/Commands.lean ====
section
/-! SUPPORT. One turn of each command's loop, and the operations inside it: everything it can do, said once. -/

namespace Sys2Proof.Machine

/-! ### The contrast curve -/

/-- `CURVE_WORD` gives a word exactly when the three LUT entries it needs are written. -/
theorem curveWord_eq_ok {w x : Word} {s : State} : curveWord w s = .ok x ↔ s.curved w = some x := by
  simp only [curveWord, State.curved, Run.bind_eq_ok, lutRead_eq_ok, Option.bind_eq_some_iff, Option.map_eq_some_iff,
    Run.ok.injEq]

theorem curveWord_ne_raise (w : Word) (s : State) (c : ErrCause) : curveWord w s ≠ .raise c := by
  simp [curveWord, Run.bind_eq_raise]

/-- `CURVE_WORD` stops only at an unwritten LUT entry. -/
theorem curveWord_eq_stop {w : Word} {s : State} {f : Fault} (h : curveWord w s = .stop f) :
    ∃ c, f = .unwrittenLut c ∧ Memory.read s.lut c = none := by
  simp only [curveWord, Run.bind_eq_stop, lutRead_eq_stop, reduceCtorEq, and_false, exists_false, or_false] at h
  rcases h with ⟨h, rfl⟩ | ⟨_, _, ⟨h, rfl⟩ | ⟨_, _, h, rfl⟩⟩ <;> exact ⟨_, rfl, h⟩

/-- One turn of `CONTRAST`: one pixel through the LUT, in place. -/
theorem contrastPixel_eq_ok {p : Nat} {s t : State} :
    contrastPixel p s = .ok t ↔ ∃ w x, Memory.read s.pix p = some w ∧ s.curved w = some x ∧ t = pixWrite p x s := by
  simp only [contrastPixel, Run.bind_eq_ok, pixRead_eq_ok, curveWord_eq_ok, Run.ok.injEq]
  constructor
  · rintro ⟨w, hw, x, hx, rfl⟩; exact ⟨w, x, hw, hx, rfl⟩
  · rintro ⟨w, x, hw, hx, rfl⟩; exact ⟨w, hw, x, hx, rfl⟩

theorem contrastPixel_ne_raise (p : Nat) (s : State) (c : ErrCause) : contrastPixel p s ≠ .raise c := by
  simp [contrastPixel, Run.bind_eq_raise, curveWord_ne_raise]

/-- One turn of `CONTRAST` stops only at an unwritten pixel or LUT entry. -/
theorem contrastPixel_eq_stop {p : Nat} {s : State} {f : Fault} (h : contrastPixel p s = .stop f) :
    (f = .unwrittenPix p ∧ Memory.read s.pix p = none) ∨ ∃ c, f = .unwrittenLut c ∧ Memory.read s.lut c = none := by
  rcases Run.bind_eq_stop.1 h with h | ⟨w, _, h⟩
  · exact .inl (pixRead_eq_stop.1 h).symm
  · rcases Run.bind_eq_stop.1 h with h | ⟨x, _, h⟩
    · exact .inr (curveWord_eq_stop h)
    · simp at h

theorem contrastBody_ne_raise (s : State) (c : ErrCause) : contrastBody s ≠ .raise c :=
  forUpTo_ne_raise fun p a => contrastPixel_ne_raise p a c

theorem lutgenEntry_eq (a : Int) (c : Nat) (s : State) :
    lutgenEntry a c s = .ok (lutWrite c (curveFn a (BitVec.ofNat 8 c)) s) := rfl

/-! ### The bit-packer -/

theorem clearCell_eq (i : Nat) (s : State) : clearCell i s = .ok (maskWrite i 0#8 s) := rfl

theorem clearBody_ne_raise (s : State) (c : ErrCause) : clearBody s ≠ .raise c :=
  forUpTo_ne_raise fun i a => by simp [clearCell_eq]

/-- Setting a dot ORs its bit into the mask of its cell. -/
theorem setDot_eq_ok {x y : Nat} {s t : State} :
    setDot x y s = .ok t ↔
      ∃ m, Memory.read s.mask (s.cellIndex x y) = some m ∧ t = maskWrite (s.cellIndex x y) (m ||| dotBit x y) s := by
  simp only [setDot, Run.bind_eq_ok, maskRead_eq_ok, Run.ok.injEq, @eq_comm _ t]

theorem setDot_eq_stop {x y : Nat} {s : State} {f : Fault} :
    setDot x y s = .stop f ↔ Memory.read s.mask (s.cellIndex x y) = none ∧ f = .unwrittenMask (s.cellIndex x y) := by
  simp [setDot, Run.bind_eq_stop, maskRead_eq_stop]

theorem setDot_ne_raise (x y : Nat) (s : State) (c : ErrCause) : setDot x y s ≠ .raise c := by
  simp [setDot, Run.bind_eq_raise]

/-- One turn of `ENCODE`: the pixel is read; its dot, if on, is set; else nothing changes. -/
theorem encodePixel_eq_ok {x y : Nat} {s t : State} :
    encodePixel y x s = .ok t ↔
      ∃ w, Memory.read s.pix (s.pixelIndex x y) = some w ∧
        ((s.dotOn w = true ∧ setDot x y s = .ok t) ∨ (s.dotOn w = false ∧ t = s)) := by
  simp only [encodePixel, Run.bind_eq_ok, pixRead_eq_ok]
  refine exists_congr fun w => and_congr_right fun _ => ?_
  cases h : s.dotOn w <;> simp [@eq_comm _ t]

theorem encodePixel_ne_raise (x y : Nat) (s : State) (c : ErrCause) : encodePixel y x s ≠ .raise c := by
  simp only [encodePixel, ne_eq, Run.bind_eq_raise, pixRead_ne_raise, false_or, not_exists, not_and]
  intro w _
  split
  · exact setDot_ne_raise x y s c
  · simp

theorem encodeRow_ne_raise (y : Nat) (s : State) (c : ErrCause) : encodeRow y s ≠ .raise c :=
  forUpTo_ne_raise fun x a => encodePixel_ne_raise x y a c

theorem encodeBody_ne_raise (s : State) (c : ErrCause) : encodeBody s ≠ .raise c :=
  forUpTo_ne_raise fun y a => encodeRow_ne_raise y a c

theorem renderBody_ne_raise (s : State) (c : ErrCause) : renderBody s ≠ .raise c := by
  simp only [renderBody, ne_eq, Run.bind_eq_raise, clearBody_ne_raise, false_or, not_exists, not_and, not_or]
  refine fun a _ => ⟨?_, fun b _ => encodeBody_ne_raise b c⟩
  split
  · exact contrastBody_ne_raise a c
  · simp

/-! ### The unpacker -/

/-- One dot of `UNPACK`: its pixel, if inside the buffer, becomes WHITE or BLACK. -/
theorem unpackDot_eq (m : Byte) (col row dy dx : Nat) (s : State) :
    unpackDot m col row dy dx s = .ok
      (if 2 * col + dx < s.width ∧ 4 * row + dy < s.height then
        pixWrite (s.pixelIndex (2 * col + dx) (4 * row + dy)) (dotPixel m dx dy) s else s) := by
  unfold unpackDot
  by_cases h1 : 2 * col + dx < s.width <;> by_cases h2 : 4 * row + dy < s.height <;> simp [h1, h2]

theorem unpackRow_ne_raise (m : Byte) (col row dy : Nat) (s : State) (c : ErrCause) : unpackRow m col row dy s ≠ .raise c :=
  forUpTo_ne_raise fun dx a => by simp [unpackDot_eq]

theorem unpackCell_ne_raise (i : Nat) (s : State) (c : ErrCause) : unpackCell i s ≠ .raise c := by
  simp only [unpackCell, ne_eq, Run.bind_eq_raise, maskRead_ne_raise, false_or, not_exists, not_and]
  exact fun m _ => forUpTo_ne_raise fun dy a => unpackRow_ne_raise m _ _ dy a c

/-! ### Bits -/

/-- The bits of a packed byte. -/
theorem packBits_getLsbD (f : Nat → Bool) (n b : Nat) (hb : b < 8) :
    (packBits f n).getLsbD b = (decide (b < n) && f b) := by
  induction n with
  | zero => simp [packBits]
  | succ n ih =>
    simp only [packBits, BitVec.getLsbD_or, ih]
    by_cases h : b = n
    · subst h
      cases hf : f b <;> simp [hb]
    · by_cases hlt : b < n
      · have h' : b < n + 1 := by omega
        cases hf : f n <;> simp [hlt, h', BitVec.getLsbD_shiftLeft]
      · have h' : ¬ b < n + 1 := by omega
        have h'' : b - n ≠ 0 := by omega
        cases hf : f n <;> simp [hlt, h', h'', BitVec.getLsbD_shiftLeft, BitVec.getLsbD_one]

/-- The bits of a dot's mask bit. -/
theorem dotBit_getLsbD (x y b : Nat) (hb : b < 8) : (dotBit x y).getLsbD b = decide (b = bitIdx x y) := by
  unfold dotBit
  by_cases h : b = bitIdx x y
  · subst h; simp [hb]
  · by_cases hlt : b < bitIdx x y
    · simp [hlt, h, BitVec.getLsbD_shiftLeft]
    · have h' : b - bitIdx x y ≠ 0 := by omega
      simp [h, h', BitVec.getLsbD_shiftLeft, BitVec.getLsbD_one]

end Sys2Proof.Machine
end

