-- ==== Sys2Proof/Laws/Step.lean ====
section
/-! SUPPORT. What a step can do, said once: the cases of `step` when it answers a next state, and of the host accesses it
makes. -/

namespace Sys2Proof.Machine

/-- A register's offset names that register. -/
@[simp] theorem regAt_regOffset (r : Reg) : regAt (regOffset r) = some r := by cases r <;> rfl

/-- An offset names a register only if it is that register's offset. -/
theorem regAt_eq_some {o : Nat} {r : Reg} (h : regAt o = some r) : o = regOffset r := by
  unfold regAt at h
  split at h <;> simp_all [regOffset] <;> (subst h; rfl)

/-- What an aligned, mapped offset can name is inside its memory. -/
theorem busTarget_inside {off : Offset} {s : State} :
    (∀ c, busTarget off s = .lut c → c < Config.lutSize) ∧ (∀ i, busTarget off s = .mask i → i < s.maskDepth) ∧
    (∀ p, busTarget off s = .pix p → p < s.pixDepth) := by
  refine ⟨fun c h => ?_, fun c h => ?_, fun c h => ?_⟩ <;> simp only [busTarget] at h <;>
    split_ifs at h <;> (try split at h) <;>
    first | (injection h with h; simp only [Config.lutSize]; omega) | (injection h with h; omega) | cases h

/-- The cases of a command word's run: its command, or the ILLEGAL report. -/
theorem runCommand_cases (w : Word) (s : State) :
    (∃ i, decode w = .ok i ∧ runCommand w s = exec i s) ∨
    (∃ e, decode w = .error e ∧ runCommand w s = .next (complete (raiseError .illegal s))) := by
  unfold runCommand
  cases h : decode w with
  | ok i => exact .inl ⟨i, rfl, rfl⟩
  | error e => exact .inr ⟨e, rfl, rfl⟩

/-- Everything a step can do. -/
theorem step_cases (s : State) :
    (s.inFlight = none ∧ s.inbox = [] ∧ step s = .next s) ∨
    (∃ rest, s.inFlight = none ∧ s.inbox = .engine :: rest ∧ step s = .next (setInbox rest s)) ∨
    (∃ rest, s.inbox = .poll :: rest ∧ step s = .next (pollStatus (setInbox rest s))) ∨
    (∃ rest, s.inbox = .reset :: rest ∧ step s = .next (resetBlock rest s)) ∨
    (∃ a rest, s.inFlight = none ∧ s.inbox = .host a :: rest ∧ step s = hostAccess a (setInbox rest s)) ∨
    (∃ w rest, s.inFlight = some w ∧ s.inbox = .engine :: rest ∧ step s = runCommand w (setInbox rest s)) ∨
    (∃ w, s.inFlight = some w ∧ (s.inbox = [] ∨ ∃ a rest, s.inbox = .host a :: rest) ∧ step s = runCommand w s) := by
  unfold step advance
  cases hf : s.inFlight with
  | none =>
    simp only [idleTurn]
    rcases hi : s.inbox with _ | ⟨e, rest⟩
    · simp
    · cases e <;> simp
  | some w =>
    simp only [busyTurn]
    rcases hi : s.inbox with _ | ⟨e, rest⟩
    · simp
    · cases e <;> simp

/-- What `withFetchWord` places runs at the very next step, with the rest of the inbox still to come. -/
theorem step_withFetchWord (s : State) (nbits w : Nat) :
    step (s.withFetchWord nbits w) = runCommand (commandWordOf nbits w) (startCommand (commandWordOf nbits w) s) := rfl

end Sys2Proof.Machine
end

