-- ==== Sys2Proof/Laws/HostProgram.lean ====
section
/-! SUPPORT. What a line of a host program can bring to the block, said once. -/

namespace Sys2Proof.Machine

/-- A register's offset lies in the span. -/
@[simp] theorem presented_reg (r : Reg) : (Loc.reg r).presented = some (BitVec.ofNat 25 (regOffset r)) := by cases r <;> rfl

/-- A line is presented at its own offset, uncut. -/
theorem presented_eq_some {loc : Loc} {off : Offset} :
    loc.presented = some off ↔ loc.offset = off.toNat := by
  unfold Loc.presented
  constructor
  · intro h
    split at h
    · rename_i hlt
      obtain rfl : BitVec.ofNat 25 loc.offset = off := by simpa using h
      rw [BitVec.toNat_ofNat, Nat.mod_eq_of_lt hlt]
    · cases h
  · intro h
    rw [if_pos (h ▸ off.isLt), h, BitVec.ofNat_toNat, BitVec.setWidth_eq]

/-- A line outside the span brings the block nothing and leaves the schedule as it is. -/
theorem events_outside {loc : Loc} (h : 2 ^ 25 ≤ loc.offset) (p : Schedule) (v : Word) :
    BusLine.events p (.wr loc v) = ([], p) ∧ BusLine.events p (.rd loc) = ([], p) := by
  have hn : loc.presented = none := if_neg (by omega)
  simp [BusLine.events, hn]

/-- An access brings one event: itself, or an early read of `STATUS`. -/
theorem accessEvents_cases (p : Schedule) (a : Access) :
    accessEvents p a = ([.host a], p.afterAccess a) ∨
    ((∃ off : Offset, a = .read off ∧ off.toNat = regOffset .status) ∧ p.early ≠ 0 ∧
      accessEvents p a = ([.poll], { p with early := p.early - 1 })) := by
  cases a with
  | read off =>
    by_cases h : off.toNat = regOffset .status ∧ p.early ≠ 0
    · exact .inr ⟨⟨off, rfl, h.1⟩, h.2, if_pos h⟩
    · exact .inl (if_neg h)
  | write off v => exact .inl rfl

/-- An idle block's `STATUS` reads are ordinary reads. -/
theorem waitIdleEvents_idle (later : List Nat) :
    waitIdleEvents ⟨0, later⟩ = ([.host (.read 0x03C#25)], ⟨0, later⟩) := rfl

end Sys2Proof.Machine
end

