-- ==== Sys2Proof/Laws/PerInstr.lean ====
section
/-! SUPPORT. A property of the commands as syntax, one lemma a constructor: each command's word passes the checks of a
well-formed command word (30_encoding.md R90, R94), and its opcode is a row of the map that names the command (R93). -/

namespace Sys2Proof.Laws

/-- The word of `i` has `RSV` = 0 and an assigned `OPC`, and the map's row for that `OPC` is `i`. -/
def EncodesWellFormed.Statement (i : Instr) : Prop :=
  commandWordWellFormed (encode i) = true ∧ ((encode i).extractLsb' 0 8, i) ∈ opcodeMap

theorem EncodesWellFormed.nop : EncodesWellFormed.Statement .nop := by unfold EncodesWellFormed.Statement; decide

theorem EncodesWellFormed.clear : EncodesWellFormed.Statement .clear := by unfold EncodesWellFormed.Statement; decide

theorem EncodesWellFormed.lutgen : EncodesWellFormed.Statement .lutgen := by unfold EncodesWellFormed.Statement; decide

theorem EncodesWellFormed.contrast : EncodesWellFormed.Statement .contrast := by unfold EncodesWellFormed.Statement; decide

theorem EncodesWellFormed.encode : EncodesWellFormed.Statement .encode := by unfold EncodesWellFormed.Statement; decide

theorem EncodesWellFormed.render : EncodesWellFormed.Statement .render := by unfold EncodesWellFormed.Statement; decide

theorem EncodesWellFormed.encpix : EncodesWellFormed.Statement .encpix := by unfold EncodesWellFormed.Statement; decide

theorem EncodesWellFormed.luma : EncodesWellFormed.Statement .luma := by unfold EncodesWellFormed.Statement; decide

theorem EncodesWellFormed.curve : EncodesWellFormed.Statement .curve := by unfold EncodesWellFormed.Statement; decide

theorem EncodesWellFormed.decide : EncodesWellFormed.Statement .decide := by unfold EncodesWellFormed.Statement; decide

theorem EncodesWellFormed.lumaxy : EncodesWellFormed.Statement .lumaxy := by unfold EncodesWellFormed.Statement; decide

theorem EncodesWellFormed.glyphEnc : EncodesWellFormed.Statement .glyphEnc := by unfold EncodesWellFormed.Statement; decide

theorem EncodesWellFormed.glyphCell : EncodesWellFormed.Statement .glyphCell := by unfold EncodesWellFormed.Statement; decide

theorem EncodesWellFormed.glyphDec : EncodesWellFormed.Statement .glyphDec := by unfold EncodesWellFormed.Statement; decide

theorem EncodesWellFormed.setglyph : EncodesWellFormed.Statement .setglyph := by unfold EncodesWellFormed.Statement; decide

theorem EncodesWellFormed.unpack : EncodesWellFormed.Statement .unpack := by unfold EncodesWellFormed.Statement; decide

theorem EncodesWellFormed.unpackall : EncodesWellFormed.Statement .unpackall := by unfold EncodesWellFormed.Statement; decide

theorem EncodesWellFormed.gridPix : EncodesWellFormed.Statement .gridPix := by unfold EncodesWellFormed.Statement; decide

theorem EncodesWellFormed.gridCell : EncodesWellFormed.Statement .gridCell := by unfold EncodesWellFormed.Statement; decide

end Sys2Proof.Laws
end

