-- ==== Sys2Proof/Tests/Slice0.lean ====
section
/-! SUPPORT. The model's own tests: the well-formedness checks refuse what they should, every command's word decodes, and a
placed command runs first after reset. One step of each command is in Tests/Steps.lean, a witness for every statement with
hypotheses in Tests/Witnesses.lean. -/

namespace Sys2Proof.Tests

open Sys2Proof Sys2Proof.Machine

/-! ### Helpers -/

/-- The block after reset with the depths of 95_test_vectors.md, `MASK_DEPTH` = 64 and `PIX_DEPTH` = 256. -/
def blank : State := State.afterReset 64 256 [] []

/-- `blank` with geometry registers `cols`, `rows`, `w`, `h`. -/
def sized (cols rows w h : BitVec 16) : State :=
  { blank with cellCols := cols, cellRows := rows, bufW := w, bufH := h }

/-- A memory holding `vs` from entry 0 on. -/
def filled {w : Nat} (vs : List (BitVec w)) : Memory w := vs.zipIdx.map fun e => (e.2, e.1)

/-- The gray word of level `n`. -/
def gray (n : Byte) : Word := 0xFF#8 ++ n ++ n ++ n

/-- The ramp of vector V4.9. -/
def ramp : Memory 32 :=
  filled [gray 0, gray 50, gray 100, gray 127, gray 128, gray 129, gray 200, gray 255]

/-- What `f` reads in the next state, if there is one. -/
def nextOf {α : Type} (o : Host.Outcome State Fault Refusal) (f : State → α) : Option α :=
  match o with
  | .next s => some (f s)
  | .fault _ => none
  | .refused _ => none

/-- The fault, if there is one. -/
def faultOf (o : Host.Outcome State Fault Refusal) : Option Fault :=
  match o with
  | .fault f => some f
  | .next _ => none
  | .refused _ => none

/-! ### Well-formedness -/

theorem test_wellFormed_refuses_reserved_field : commandWordWellFormed 0x00000130#32 = false := by decide
theorem test_wellFormed_refuses_unassigned_opcode : commandWordWellFormed 0x00000007#32 = false := by decide
theorem test_wellFormed_accepts_render : commandWordWellFormed 0x00000005#32 = true := by decide
theorem test_wellFormed_refuses_misaligned_access : Access.wellFormed (.read 0x0000002#25) = false := by decide
theorem test_wellFormed_refuses_misaligned_write : Access.wellFormed (.write 0x0000001#25 0) = false := by decide
theorem test_wellFormed_refuses_zero_mask_depth : depthsWellFormed 0 1 = false := by decide
theorem test_wellFormed_refuses_large_mask_depth : depthsWellFormed 262145 1 = false := by decide
theorem test_wellFormed_refuses_zero_pix_depth : depthsWellFormed 1 0 = false := by decide
theorem test_wellFormed_refuses_large_pix_depth : depthsWellFormed 1 4194305 = false := by decide
theorem test_wellFormed_accepts_every_command :
    [Instr.nop, .clear, .lutgen, .contrast, .encode, .render, .encpix, .luma, .curve, .decide, .lumaxy, .glyphEnc,
      .glyphCell, .glyphDec, .setglyph, .unpack, .unpackall, .gridPix, .gridCell].all Instr.wellFormed = true := by decide

/-! ### Decoding: the words of R93, bit by bit (RSV = 0 in bits 31:8, OPC in bits 7:0) -/

theorem test_decode_nop : decode 0b00000000000000000000000000000000#32 = .ok .nop := by decide
theorem test_decode_clear : decode 0b00000000000000000000000000000001#32 = .ok .clear := by decide
theorem test_decode_lutgen : decode 0b00000000000000000000000000000010#32 = .ok .lutgen := by decide
theorem test_decode_contrast : decode 0b00000000000000000000000000000011#32 = .ok .contrast := by decide
theorem test_decode_encode : decode 0b00000000000000000000000000000100#32 = .ok .encode := by decide
theorem test_decode_render : decode 0b00000000000000000000000000000101#32 = .ok .render := by decide
theorem test_decode_encpix : decode 0b00000000000000000000000000000110#32 = .ok .encpix := by decide
theorem test_decode_luma : decode 0b00000000000000000000000000010000#32 = .ok .luma := by decide
theorem test_decode_curve : decode 0b00000000000000000000000000010001#32 = .ok .curve := by decide
theorem test_decode_decide : decode 0b00000000000000000000000000010010#32 = .ok .decide := by decide
theorem test_decode_lumaxy : decode 0b00000000000000000000000000010011#32 = .ok .lumaxy := by decide
theorem test_decode_glyphEnc : decode 0b00000000000000000000000000100000#32 = .ok .glyphEnc := by decide
theorem test_decode_glyphCell : decode 0b00000000000000000000000000100001#32 = .ok .glyphCell := by decide
theorem test_decode_glyphDec : decode 0b00000000000000000000000000101000#32 = .ok .glyphDec := by decide
theorem test_decode_setglyph : decode 0b00000000000000000000000000101001#32 = .ok .setglyph := by decide
theorem test_decode_unpack : decode 0b00000000000000000000000000101010#32 = .ok .unpack := by decide
theorem test_decode_unpackall : decode 0b00000000000000000000000000101011#32 = .ok .unpackall := by decide
theorem test_decode_gridPix : decode 0b00000000000000000000000000110000#32 = .ok .gridPix := by decide
theorem test_decode_gridCell : decode 0b00000000000000000000000000110001#32 = .ok .gridCell := by decide
/-- V8.3, V8.4. -/
theorem test_decode_reserved_field : decode 0x00000130#32 = .error .reservedField := by decide
/-- V8.5. -/
theorem test_decode_reserved_opcodes :
    [0x07#8, 0x14#8, 0x22#8, 0x2C#8, 0x32#8, 0xFF#8].all (fun o => lookupOpcode o opcodeMap == none) = true := by decide
theorem test_decodeTableWord_gridCell : decodeTableWord 32 0x31 = some .gridCell := by decide
theorem test_decodeTableWord_refuses : decodeTableWord 32 0x100 = none := by decide

/-! ### The placed command runs first after reset -/

theorem test_reset_runs_nop : nextOf (step (State.reset.withFetchWord 32 0)) statusWord = some 0x2#32 := by decide
theorem test_reset_runs_clear : nextOf (step (State.reset.withFetchWord 32 1)) statusWord = some 0x2#32 := by decide
theorem test_reset_curve_stops : faultOf (step (State.reset.withFetchWord 32 0x11)) = some (.unwrittenLut 0) := by decide
theorem test_reset_runs_illegal : nextOf (step (State.reset.withFetchWord 32 0x100)) statusWord = some 0x16#32 := by decide

end Sys2Proof.Tests
end

