-- ==== Sys2Proof/Tests/Steps.lean ====
section
/-! SUPPORT. One step of each command, and of the bus, against the vectors of 95_test_vectors.md. -/

namespace Sys2Proof.Tests

open Sys2Proof Sys2Proof.Machine

/-! ### One step of each command -/

/-- V8.1. -/
theorem test_nop_raises_irq :
    nextOf (exec .nop { blank with irqEn := 1 }) (fun t => (statusWord t, t.irq)) = some (0x2#32, true) := by decide
/-- V4.12. -/
theorem test_clear_keeps_entries_beyond_grid :
    nextOf (exec .clear { sized 2 1 0 0 with mask := [(0, 0x3C), (2, 0x11)] }) (·.mask) =
      some [(0, 0), (1, 0), (2, 0x11)] := by decide
/-- V4.18. -/
theorem test_clear_over_capacity : nextOf (exec .clear (sized 9 8 4 8)) (fun t => (statusWord t, t.mask)) = some (0x26#32, []) := by
  decide
/-- V2.0, amount 100: entries 64, 127, 129 and 192. -/
theorem test_curveFn_amount_100 : [curveFn 100 64, curveFn 100 127, curveFn 100 129, curveFn 100 192] = [0, 125, 130, 255] := by decide
/-- `LUTGEN` runs to its completion with an empty LUT: it only writes (R40). -/
theorem test_lutgen_completes : nextOf (exec .lutgen { blank with contrastAmount := 0x0103 }) statusWord = some 0x2#32 := by
  decide +kernel
/-- V2.0, amounts whose divisor or factor is negative, and 259: floor, not truncation toward zero. -/
theorem test_curveFn_corners :
    [curveFn 1 1, curveFn 300 127, curveFn (-1000) 254, curveFn 32767 64, curveFn 259 127, curveFn 259 128, curveFn 260 0] =
      [0, 141, 52, 194, 0, 128, 255] := by decide
/-- V2.7, pixels 2 and 5, with the LUT entries they need. -/
theorem test_contrast_in_place :
    nextOf (exec .contrast { sized 0 0 2 1 with
      lut := [(100, 64), (129, 130), (255, 255)], pix := [(0, gray 100), (1, gray 129)] }) (·.pix) =
      some [(0, 0xFF404040), (1, 0xFF828282)] := by decide
/-- V2.8. -/
theorem test_contrast_empty_buffer : nextOf (exec .contrast (sized 0 0 0 7)) statusWord = some 0x2#32 := by decide
/-- V4.13, one cell of it. -/
theorem test_encode_ors_into_old_mask :
    nextOf (exec .encode { sized 1 1 2 2 with
      thresh := 128, mask := [(0, 0x01)], pix := filled [0xFF000000, 0xFFFFFFFF, 0xFF000000, 0xFFFFFFFF] }) (·.mask) =
      some [(0, 0x0B)] := by decide
/-- V4.7: a buffer smaller than the grid. -/
theorem test_encode_partial_cells :
    nextOf (exec .encode { sized 2 2 3 5 with
      thresh := 1, mask := filled [0, 0, 0, 0], pix := filled (List.replicate 15 0xFFFFFFFF) }) (·.mask) =
      some (filled [0xFF, 0x55, 0x03, 0x01]) := by decide +kernel
/-- V4.10. -/
theorem test_render_inverted_ramp :
    nextOf (exec .render { sized 1 1 2 4 with ctrl := 1, thresh := 128, pix := ramp }) (·.mask) = some [(0, 0x1F)] := by decide +kernel
/-- V4.19, its first two pixels' worth: contrast runs before the dots are decided. -/
theorem test_render_contrasts_first :
    nextOf (exec .render { sized 1 1 2 1 with
      ctrl := 2, thresh := 130, lut := [(100, 64), (129, 130), (255, 255)], pix := [(0, gray 100), (1, gray 129)] })
      (fun t => (t.mask, t.pix)) = some ([(0, 0x02)], [(0, 0xFF404040), (1, 0xFF828282)]) := by decide +kernel
/-- V4.14. -/
theorem test_encpix_reports :
    nextOf (exec .encpix { sized 2 2 4 8 with thresh := 128, arg0 := 29, mask := [(2, 0)], pix := [(29, 0xFFFFFFFF)] })
      (fun t => (t.mask, t.res0, t.res1, t.res2, t.res3)) = some ([(2, 0x80)], 255, 1, 2, 7) := by decide
/-- V4.15. -/
theorem test_encpix_not_covered :
    nextOf (exec .encpix { sized 2 2 5 9 with thresh := 1, arg0 := 4, pix := [(4, 0xFFFFFFFF)] })
      (fun t => (t.mask, t.res0, t.res1, t.res2, t.res3)) = some ([], 255, 1, 2, 0x80000000) := by decide
/-- V1.8. -/
theorem test_luma_truncates : nextOf (exec .luma { blank with arg0 := 0xFF1E140A }) (·.res0) = some 18 := by decide
/-- V1.11. -/
theorem test_luma_mixed : nextOf (exec .luma { blank with arg0 := 0xFF3264C8 }) (·.res0) = some 124 := by decide
/-- V2.3. -/
theorem test_curve_lanes :
    nextOf (exec .curve { blank with arg0 := 0x00647F81, lut := [(100, 64), (127, 125), (129, 130)] }) (·.res0) =
      some 0x00407D82 := by decide
/-- V3.4. -/
theorem test_decide_equal_inverted :
    nextOf (exec .decide { blank with ctrl := 1, thresh := 128, arg0 := 128 }) (·.res0) = some 1 := by decide
/-- V3.5, inverted. -/
theorem test_decide_above_inverted :
    nextOf (exec .decide { blank with ctrl := 1, thresh := 128, arg0 := 129 }) (·.res0) = some 0 := by decide
/-- V7.12. -/
theorem test_lumaxy_answers :
    nextOf (exec .lumaxy { sized 1 1 2 4 with arg0 := 1, arg1 := 2, pix := [(5, gray 128)] }) (·.res0) = some 128 := by decide
/-- V7.14. -/
theorem test_lumaxy_out_of_buffer : nextOf (exec .lumaxy { sized 1 1 2 4 with arg1 := 4 }) statusWord = some 0x36#32 := by decide
/-- V5.5. -/
theorem test_glyphEnc_right_column : nextOf (exec .glyphEnc { blank with arg0 := 0xAA }) (·.res0) = some 0x28B8 := by decide
/-- V5.6, V5.7 and the ignored upper bits of V5.4. -/
theorem test_glyphEnc_rows :
    [nextOf (exec .glyphEnc { blank with arg0 := 0x0F }) (·.res0), nextOf (exec .glyphEnc { blank with arg0 := 0xFFFFFFF0 }) (·.res0)] =
      [some 0x281B, some 0x28E4] := by decide
/-- V5.8. -/
theorem test_glyphCell_reads :
    nextOf (exec .glyphCell { sized 1 1 0 0 with mask := [(0, 0x55)] }) (fun t => (t.res0, t.res1)) = some (0x2847, 0x55) := by decide
/-- V8.6: CFG before OOB. -/
theorem test_glyphCell_cfg_first : nextOf (exec .glyphCell { sized 9 8 0 0 with arg0 := 100 }) statusWord = some 0x26#32 := by decide
/-- V6.1. -/
theorem test_glyphDec_valid :
    nextOf (exec .glyphDec { blank with arg0 := 0x28B8 }) (fun t => (t.res0, t.res1)) = some (0xAA, 1) := by decide
/-- V6.2d. -/
theorem test_glyphDec_lenient :
    nextOf (exec .glyphDec { blank with arg0 := 0x000128B8 }) (fun t => (t.res0, t.res1)) = some (0xAA, 0) := by decide
/-- V6.5. -/
theorem test_setglyph_stores :
    nextOf (exec .setglyph { sized 2 1 0 0 with arg0 := 1, arg1 := 0x2847 }) (fun t => (t.mask, t.res0, t.res1)) =
      some ([(1, 0x55)], 0x55, 1) := by decide
/-- V6.6. -/
theorem test_setglyph_out_of_grid :
    nextOf (exec .setglyph { sized 2 1 0 0 with arg0 := 2 }) (fun t => (statusWord t, t.mask)) = some (0x36#32, []) := by decide
/-- V6.8. -/
theorem test_unpack_cell :
    nextOf (exec .unpack { sized 1 1 2 4 with mask := [(0, 0x1F)] }) (·.pix) =
      some (filled [white, white, white, white, white, black, black, black]) := by decide +kernel
/-- V6.9: only the pixels of cell 0 are written. -/
theorem test_unpack_left_cell :
    nextOf (exec .unpack { sized 2 1 4 4 with mask := [(0, 0xAA), (1, 0)] }) (·.pix) =
      some [(0, black), (1, white), (4, black), (5, white), (8, black), (9, white), (12, black), (13, white)] := by decide +kernel
/-- V6.7. -/
theorem test_unpackall_small_buffer :
    nextOf (exec .unpackall { sized 2 2 3 5 with mask := filled [0xFF, 0xFF, 0xFF, 0xFF] }) (·.pix) =
      some (filled (List.replicate 15 white)) := by decide +kernel
/-- V7.2. -/
theorem test_gridPix_inside :
    nextOf (exec .gridPix { sized 2 2 4 8 with arg0 := 22 }) (fun t => (t.res0, t.res1, t.res2, t.res3)) = some (1, 1, 3, 2) := by decide
/-- The geometry of 65535 in every register. -/
theorem test_gridPix_extreme :
    nextOf (exec .gridPix { sized 65535 65535 65535 65535 with arg0 := 0xFFFFFFFF }) (fun t => (t.res0, t.res1, t.res2, t.res3)) =
      some (0, 16384, 0x3FFFC000, 0x80000002) := by decide
/-- V7.10. -/
theorem test_gridCell_inside :
    nextOf (exec .gridCell { sized 3 2 5 8 with arg0 := 5 }) (fun t => (t.res0, t.res1, t.res2, t.res3)) = some (2, 1, 24, 0) := by decide
/-- V7.11. -/
theorem test_gridCell_zero_divisor : nextOf (exec .gridCell (sized 0 2 4 8)) statusWord = some 0x26#32 := by decide
/-- V8.7: the first error is kept. -/
theorem test_first_error_kept :
    nextOf (exec .glyphCell { sized 1 1 0 0 with done := true, err := true, errcode := 1, arg0 := 1 }) statusWord = some 0x16#32 := by
  decide

/-! ### The bus -/

/-- V8.8. -/
theorem test_misaligned_read :
    nextOf (step { blank with inbox := [.host (.read 0x2#25)] }) (fun t => (statusWord t, t.replies)) = some (0x44#32, [0]) := by decide
/-- V8.10. -/
theorem test_mask_window_beyond_depth :
    nextOf (step { blank with inbox := [.host (.read 0x100100#25)] }) (fun t => (statusWord t, t.replies)) = some (0x44#32, [0]) := by
  decide
/-- V8.13. -/
theorem test_acknowledge_error :
    nextOf (step { blank with done := true, err := true, errcode := 1, inbox := [.host (.write 0x3C#25 4)] }) statusWord = some 0x2#32 := by
  decide
/-- V2.4. -/
theorem test_contrast_amount_reads_signed :
    nextOf (step { blank with contrastAmount := 0xFFFF, inbox := [.host (.read 0xC#25)] }) (·.replies) = some [0xFFFFFFFF] := by decide
/-- R101: `GEOM` is four writes, and `RDPIX` uses the width it wrote. -/
theorem test_program_expands :
    expandProgram 0 [.geom 1 1 2 4, .rdpix 1 3, .cmd .gridCell] =
      [.wr (.reg .cellCols) 1, .wr (.reg .cellRows) 1, .wr (.reg .bufW) 2, .wr (.reg .bufH) 4, .rd (.pix 7),
       .wr (.reg .cmd) 0x31] := by decide
/-- R60, R100: a raw offset at the span's end is presented, and one past it brings no access. -/
theorem test_program_span_end :
    programEvents 0 ⟨0, []⟩ [.wr (.raw 0x1FFFFFC) 7, .wr (.raw 0x2000008) 7, .rd (.pix 4194306)] =
      [.host (.write 0x1FFFFFC#25 7)] := by decide
/-- R73, R100: with a duration of one early read, the first `RD STATUS` after a `CMD` write finds the command in flight. -/
theorem test_program_early_status :
    programEvents 0 ⟨0, [1]⟩ [.cmd .nop, .rd (.reg .status), .rd (.reg .status)] =
      [.host (.write 0x38#25 0), .poll, .host (.read 0x3C#25)] := by decide
/-- R101: `WAITIDLE` reads until bit 0 is 0, and once at the idle block. -/
theorem test_waitidle_polls_then_once :
    programEvents 0 ⟨0, [2]⟩ [.cmd .nop, .waitidle, .waitidle] =
      [.host (.write 0x38#25 0), .poll, .poll, .host (.read 0x3C#25), .host (.read 0x3C#25)] := by decide
/-- R30, R73, R101: what the reads of such a program return. -/
theorem test_waitidle_replies :
    nextOf (Host.Core.run Sys2Proof.core 4 { blank with inbox := programEvents 0 ⟨0, [1]⟩ [.cmd .nop, .waitidle] })
      (fun t => (t.replies, t.inbox)) = some ([0x1, 0x2], []) := by decide

end Sys2Proof.Tests
end

