-- ==== Sys2Proof/Tests/Witnesses.lean ====
section
/-! SUPPORT. For every statement of Certificates/Slice0/Obligations.lean with hypotheses, concrete data that meet them together,
at the ends of the ranges they name. -/

namespace Sys2Proof.Tests

open Sys2Proof Sys2Proof.Machine

/-- Written and ready for every command: one cell, a 2×4 ramp, the LUT entries of its channels, an old mask. -/
def ready : State :=
  { sized 1 1 2 4 with
    thresh := 128, mask := [(0, 1)], pix := ramp,
    lut := [(0, 0), (50, 0), (100, 64), (127, 125), (128, 128), (129, 130), (200, 255), (255, 255)] }

/-- A pure black and white buffer larger than its grid. -/
def tones (ctrl : BitVec 2) (thresh : Byte) : State :=
  { sized 1 1 3 4 with
    ctrl := ctrl, thresh := thresh,
    pix := filled [white, black, 0, black, white, 0, 0x00FFFFFF, 0, 0, white, white, 0] }

theorem witness_IllegalWordOnlyReports :
    [0x00000100#32, 0x80000000#32, 0x07#32, 0x0F#32, 0x14#32, 0x1F#32, 0x22#32, 0x27#32, 0x2C#32, 0x2F#32, 0x32#32, 0xFF#32].all
      (fun w => !commandWordWellFormed w && decide ({ blank with inFlight := some w }.inFlight = some w) &&
        decide ({ blank with inFlight := some w }.inbox = []) &&
        decide ({ blank with inFlight := some w, inbox := [.host (.read 0)] }.inbox = [.host (.read 0)]) &&
        decide ({ blank with inFlight := some w, inbox := [.engine] }.inbox = [.engine])) = true := by decide

theorem witness_StepRunsDecodedCommand :
    decode 0x10#32 = .ok .luma ∧
    ({ blank with inFlight := some 0x10#32 }.inFlight = some 0x10#32 ∧ { blank with inFlight := some 0x10#32 }.inbox = []) ∧
    ({ blank with inFlight := some 0x10#32, inbox := [.host (.read 0)] }.inbox = [.host (.read 0)]) ∧
    ({ blank with inFlight := some 0x10#32, inbox := [.engine] }.inbox = [.engine]) := by decide

theorem witness_PlacedCommandRunsNext : decodeTableWord 32 0x00000005 = some .render := by decide

theorem witness_CmdWriteStartsCommand :
    { blank with inbox := [.host (.write 0x038#25 5)] }.inFlight = none ∧
    { blank with inbox := [.host (.write 0x038#25 5)] }.inbox = .host (.write 0x038#25 5) :: [] ∧
    { blank with inbox := [.host (.read 0x038#25)] }.inbox = .host (.read 0x038#25) :: [] := by decide

theorem witness_BusyPollsThenCompletes :
    decode 0x31#32 = .ok .gridCell ∧
    { blank with inFlight := some 0x31#32, inbox := [.poll, .poll, .engine] }.inbox = List.replicate 2 .poll ++ .engine :: [] ∧
    { blank with inFlight := some 0x31#32, inbox := [.engine] }.inbox = List.replicate 0 .poll ++ .engine :: [] := by decide

theorem witness_WaitidleReadsUntilIdle :
    { blank with inFlight := some 0#32, inbox := [.poll, .poll, .host (.read 0x03C#25)] }.inbox = (waitIdleEvents ⟨2, []⟩).1 ++ [] ∧
    runCommand 0#32 { blank with inFlight := some 0#32, inbox := [.host (.read 0x03C#25)], replies := [1, 1] } =
      .next { blank with done := true, inbox := [.host (.read 0x03C#25)], replies := [1, 1] } ∧
    { blank with inbox := [.host (.read 0x03C#25)] }.inFlight = none ∧
    { blank with inbox := [.host (.read 0x03C#25)] }.inbox = (waitIdleEvents ⟨0, []⟩).1 ++ [] :=
  ⟨by decide, rfl, rfl, by decide⟩

theorem witness_IdleBlockKeepsState : blank.inFlight = none ∧ blank.inbox = [] := by decide

theorem witness_ResetEventResetsBlock :
    { ready with inFlight := some 5#32, inbox := [.reset] }.inbox = .reset :: [] := by decide

theorem witness_StepKeepsSound : Sound ready ∧ step ready = .next ready :=
  ⟨⟨by decide, by decide, by decide, by decide, by decide, by decide, by decide, by decide, by decide⟩, rfl⟩

theorem witness_StepKeepsParameters : step blank = .next blank := rfl

theorem witness_SpanDecodesToOffsets_line :
    (Loc.raw 0x1FFFFFF).offset < 2 ^ 32 ∧ (Loc.pix 4194306).offset < 2 ^ 32 ∧ (Loc.raw 0xFFFFFFFF).offset < 2 ^ 32 := by decide

theorem witness_SpanDecodesToOffsets : presentedOffset (Config.baseTop ++ 0x1FFFFFC#25) = some 0x1FFFFFC#25 := by
  have h1 : BitVec.extractLsb' 25 7 (Config.baseTop ++ 0x1FFFFFC#25) = Config.baseTop := by
    rw [BitVec.extractLsb'_append_eq_left]
  have h2 : BitVec.extractLsb' 0 25 (Config.baseTop ++ 0x1FFFFFC#25) = 0x1FFFFFC#25 := by
    rw [BitVec.extractLsb'_append_eq_right]
  unfold presentedOffset inSpan
  rw [h1, h2]
  simp

theorem witness_RegisterWriteThenRead (off : Offset) (v : Word) :
    { blank with inbox := [.host (.write off v), .host (.read off)] }.inFlight = none ∧
    { blank with inbox := [.host (.write off v), .host (.read off)] }.inbox =
      .host (.write off v) :: .host (.read off) :: [] := ⟨rfl, rfl⟩

theorem witness_ReadOnlyRegistersIgnoreWrites :
    (0x044#25 : Offset) = 0x044#25 ∧ (64#32 : Word) = BitVec.ofNat 32 blank.maskDepth ∧ blank.inFlight = none ∧
    { blank with inbox := [.host (.write 0x044#25 7)] }.inbox = .host (.write 0x044#25 7) :: [] ∧
    { blank with inbox := [.host (.read 0x044#25)] }.inbox = .host (.read 0x044#25) :: [] := by decide

theorem witness_StatusReadAndAcknowledge :
    { blank with err := true, errcode := 3 }.inFlight = none ∧
    { blank with inbox := [.host (.read 0x03C#25)] }.inbox = .host (.read 0x03C#25) :: [] ∧
    { blank with inbox := [.host (.write 0x03C#25 6)] }.inbox = .host (.write 0x03C#25 6) :: [] ∧
    { blank with inFlight := some 0#32, inbox := [.poll] }.inFlight ≠ none ∧
    { blank with inFlight := some 0#32, inbox := [.poll] }.inbox = .poll :: [] := by decide

theorem witness_MisalignedAccessIsBusError :
    [0x001#25, 0x003#25, 0x1FFFFFF#25].all (fun o : Offset => o.toNat % 4 ≠ 0) = true ∧ blank.inFlight = none := by decide

theorem witness_UnmappedAccessIsBusError :
    [0x04C#25, 0xFFC#25, 0x1400#25, 0xFFFFC#25, 0x100100#25, 0x1FFFFC#25, 0x200000#25, 0xFFFFFC#25, 0x1000400#25, 0x1FFFFFC#25].all
      (fun off : Offset => decide (off.toNat % 4 = 0) && decide
        ((0x04C ≤ off.toNat ∧ off.toNat ≤ 0xFFC) ∨ (0x1400 ≤ off.toNat ∧ off.toNat ≤ 0xFFFFC) ∨
         (0x100000 + 4 * blank.maskDepth ≤ off.toNat ∧ off.toNat ≤ 0x1FFFFC) ∨
         (0x200000 ≤ off.toNat ∧ off.toNat ≤ 0xFFFFFC) ∨ 0x1000000 + 4 * blank.pixDepth ≤ off.toNat)) = true := by decide

theorem witness_LutWindowReadsAndWrites :
    (0 ≤ 255 ∧ 255 ≤ 255) ∧ blank.inFlight = none ∧
    { blank with inbox := [.host (.write (BitVec.ofNat 25 (0x1000 + 4 * 255)) 7)] }.inbox = .host (.write 0x13FC#25 7) :: [] ∧
    { ready with inbox := [.host (.read 0x13FC#25)] }.inbox = .host (.read (BitVec.ofNat 25 (0x1000 + 4 * 255))) :: [] ∧
    Memory.read ready.lut 255 = some 255 := by decide

theorem witness_MaskWindowReadsAndWrites :
    depthsWellFormed blank.maskDepth blank.pixDepth = true ∧ 0 < blank.maskDepth ∧ 63 < blank.maskDepth ∧
    depthsWellFormed (2 ^ 18) 1 = true ∧ 262143 < 2 ^ 18 ∧
    { blank with inbox := [.host (.write 0x1000FC#25 7)] }.inbox = .host (.write (BitVec.ofNat 25 (0x100000 + 4 * 63)) 7) :: [] ∧
    { ready with inbox := [.host (.read 0x100000#25)] }.inbox = .host (.read (BitVec.ofNat 25 (0x100000 + 4 * 0))) :: [] ∧
    Memory.read ready.mask 0 = some 1 := by decide

theorem witness_PixelWindowReadsAndWrites :
    depthsWellFormed blank.maskDepth blank.pixDepth = true ∧ 0 < blank.pixDepth ∧ 255 < blank.pixDepth ∧
    depthsWellFormed 1 (2 ^ 22) = true ∧ 4194303 < 2 ^ 22 ∧
    { blank with inbox := [.host (.write 0x10003FC#25 7)] }.inbox = .host (.write (BitVec.ofNat 25 (0x1000000 + 4 * 255)) 7) :: [] ∧
    { ready with inbox := [.host (.read 0x100001C#25)] }.inbox = .host (.read (BitVec.ofNat 25 (0x1000000 + 4 * 7))) :: [] ∧
    Memory.read ready.pix 7 = some (gray 255) := by decide

theorem witness_UnwrittenWindowReadFaults :
    depthsWellFormed blank.maskDepth blank.pixDepth = true ∧
    (255 ≤ 255 ∧ Memory.read blank.lut 255 = none ∧ step { blank with inbox := [.host (.read 0x13FC#25)] } = .fault (.unwrittenLut 255)) ∧
    (63 < blank.maskDepth ∧ Memory.read blank.mask 63 = none ∧
      step { blank with inbox := [.host (.read 0x1000FC#25)] } = .fault (.unwrittenMask 63)) ∧
    (255 < blank.pixDepth ∧ Memory.read blank.pix 255 = none ∧
      step { blank with inbox := [.host (.read 0x10003FC#25)] } = .fault (.unwrittenPix 255)) :=
  ⟨by decide, ⟨by decide, rfl, rfl⟩, ⟨by decide, rfl, rfl⟩, ⟨by decide, rfl, rfl⟩⟩

theorem witness_HostAccessEffects :
    (0x008#25 : Offset) ≠ 0x038#25 ∧ busTarget 0x008#25 blank = .reg .thresh ∧
    nextOf (step { blank with inbox := [.host (.read 0x008#25)] }) (·.replies) = some [0] := by decide

theorem witness_InterruptFollowsStatus :
    { blank with irqEn := 1 }.irqEn.getLsbD 0 = true ∧ { blank with irqEn := 1 }.err = false ∧
    { blank with irqEn := 1, err := true }.irqEn.getLsbD 1 = false := by decide

theorem witness_CompletionFrame : exec .nop blank = .next { blank with done := true } := rfl

theorem witness_CommandsWriteOnlyWhatTheMapNames :
    exec .nop blank = .next { blank with done := true } ∧ Instr.nop ≠ .lutgen ∧
    Instr.nop ∉ [Instr.clear, .encode, .render, .encpix, .setglyph] ∧
    Instr.nop ∉ [Instr.contrast, .render, .unpack, .unpackall] ∧
    Instr.nop ∉ [Instr.encpix, .luma, .curve, .decide, .lumaxy, .glyphEnc, .glyphCell, .glyphDec, .setglyph, .gridPix, .gridCell] :=
  ⟨rfl, by decide⟩

theorem witness_ErroringCommandOnlyReports :
    blank.err = false ∧ exec .gridPix blank = .next { blank with done := true, err := true, errcode := 2 } ∧
    exec .nop { blank with err := true, errcode := 4 } = .next { blank with done := true, err := true, errcode := 4 } ∧
    exec .nop blank = .next { blank with done := true } ∧ Instr.nop ∈ [Instr.lutgen, .luma, .curve, .decide, .glyphEnc, .glyphDec, .nop] :=
  ⟨rfl, rfl, rfl, rfl, by decide⟩

theorem witness_CommandsStopOnlyAtUnwrittenEntries :
    exec .curve blank = .fault (.unwrittenLut 0) ∧ exec .glyphCell (sized 1 1 0 0) = .fault (.unwrittenMask 0) ∧
    exec .encode (sized 1 1 1 1) = .fault (.unwrittenPix 0) := ⟨rfl, rfl, rfl⟩

theorem witness_CapacityCheckRaisesCfg :
    (sized 13 5 0 0).geomOk = false ∧ (sized 0 0 257 1).geomOk = false ∧ (sized 8 8 16 16).geomOk = true ∧
    63 < (sized 8 8 16 16).cellCols.toNat * (sized 8 8 16 16).cellRows.toNat ∧
    255 < (sized 8 8 16 16).bufW.toNat * (sized 8 8 16 16).bufH.toNat := by decide

theorem witness_CoveredPixelsHaveTheirOwnDots :
    (sized 1 1 2 4).geomOk = true ∧ (sized 1 1 2 4).covered 0 0 = true ∧ (sized 1 1 2 4).covered 1 3 = true ∧
    (sized 2 2 4 8).covered 3 7 = true ∧ (sized 2 2 4 8).cellIndex 3 7 = (sized 2 2 4 8).cellIndex 2 4 ∧
    (sized 2 2 4 8).covered 2 4 = true ∧ bitIdx 3 7 ≠ bitIdx 2 4 := by decide

theorem witness_CurveIsClampedFloor : (-32768 : Int) ≠ 259 ∧ (32767 : Int) ≠ 259 ∧ (259 : Int) = 259 := by decide

theorem witness_CurveShape :
    (0#8).toNat ≤ (255#8).toNat ∧ (-256 : Int) < -255 ∧ (259 : Int) < 260 ∧ (-255 : Int) ≤ -255 ∧ (259 : Int) ≤ 259 := by decide

theorem witness_CurveMapsTheThreeLanes :
    Memory.read ready.lut ({ ready with arg0 := gray 100 }.arg0.toNat / 65536 % 256) = some 64 ∧
    Memory.read ready.lut ({ ready with arg0 := gray 100 }.arg0.toNat / 256 % 256) = some 64 ∧
    Memory.read ready.lut ({ ready with arg0 := gray 100 }.arg0.toNat % 256) = some 64 ∧
    Memory.read blank.lut (blank.arg0.toNat % 256) = none := by decide

theorem witness_ContrastMapsTheWholeBuffer :
    ready.geomOk = true ∧ ready.contrastReady ∧ (sized 0 0 17 16).geomOk = false ∧
    (sized 1 1 1 1).geomOk = true ∧ ¬ (sized 1 1 1 1).contrastReady := by decide

theorem witness_ZeroAmountContrastIsIdentity :
    ready.contrastAmount = 0 ∧ ready.geomOk = true ∧ ∀ p, p < ready.pixelCount → (Memory.read ready.pix p).isSome = true := by decide

theorem witness_ClearZeroesTheGrid : (sized 8 8 0 0).geomOk = true ∧ (sized 65 1 0 0).geomOk = false := by decide

theorem witness_EncodeOrsTheDecidedDots :
    ready.geomOk = true ∧ ready.coveredWritten ∧ ready.dotsWritable ∧ (sized 65 1 0 0).geomOk = false ∧
    (sized 1 1 1 1).geomOk = true ∧ ¬ (sized 1 1 1 1).coveredWritten ∧ ¬ { sized 1 1 1 1 with pix := [(0, white)] }.dotsWritable := by
  decide

theorem witness_CellDotsBitByBit : 0 < 8 ∧ 7 < 8 ∧ ready.cellDots 0 = 0xF0 := by decide

theorem witness_RenderEncodesTheContrastedBuffer :
    ready.geomOk = true ∧ ready.renderReady ∧ { ready with ctrl := 2 }.renderReady ∧ (sized 65 1 0 0).geomOk = false ∧
    (sized 1 1 1 1).geomOk = true ∧ ¬ (sized 1 1 1 1).renderReady ∧ ¬ { sized 1 1 1 1 with ctrl := 2, pix := [(0, white)] }.renderReady := by
  decide

theorem witness_EncpixStepsAndReports :
    (sized 9 8 0 0).geomOk = false ∧ (ready.geomOk = true ∧ ready.bufW.toNat * ready.bufH.toNat ≤ 8) ∧
    ((0 : Nat) < ready.bufW.toNat * ready.bufH.toNat ∧ Memory.read ready.pix 0 = some (gray 0)) ∧
    (Memory.read ready.pix 7 = some (gray 255) ∧ ready.covered 1 3 = true ∧ ready.dotOn (gray 255) = true ∧
      (Memory.read ready.mask 0).isSome = true) ∧
    (Memory.read (sized 1 1 2 4).pix 7 = none ∧ Memory.read { ready with mask := [] }.mask 0 = none) := by decide

theorem witness_GlyphCellReadsOneCell :
    (sized 9 8 0 0).geomOk = false ∧ ready.geomOk = true ∧ ready.cellCols.toNat * ready.cellRows.toNat ≤ { ready with arg0 := 1 }.arg0.toNat ∧
    ready.arg0.toNat < ready.cellCols.toNat * ready.cellRows.toNat ∧ Memory.read ready.mask ready.arg0.toNat = some 1 ∧
    Memory.read (sized 1 1 0 0).mask 0 = none := by decide

theorem witness_PixelMaskAndGlyphViewsAgree :
    ready.geomOk = true ∧ ready.renderReady ∧ 0 < ready.cellCount ∧ (0 < 2 ∧ 1 < 2) ∧ (0 < 4 ∧ 3 < 4) := by decide

theorem witness_GlyphRemapIsABijection : 0 < 8 ∧ 7 < 8 := by decide

theorem witness_SetglyphStoresOneMask :
    (sized 9 8 0 0).geomOk = false ∧ (sized 2 1 0 0).geomOk = true ∧ 2 * 1 ≤ { sized 2 1 0 0 with arg0 := 2 }.arg0.toNat ∧
    { sized 2 1 0 0 with arg0 := 1 }.arg0.toNat < (sized 2 1 0 0).cellCols.toNat * (sized 2 1 0 0).cellRows.toNat := by decide

theorem witness_UnpackWritesOneBlock :
    (sized 9 8 0 0).geomOk = false ∧ ready.geomOk = true ∧ ready.arg0.toNat < ready.cellCols.toNat * ready.cellRows.toNat ∧
    Memory.read ready.mask ready.arg0.toNat = some 1 ∧ 1 < ready.width ∧ 3 < ready.height ∧ ready.pixelCount ≤ 8 ∧
    ready.cellCols.toNat * ready.cellRows.toNat ≤ { ready with arg0 := 1 }.arg0.toNat ∧ Memory.read (sized 1 1 2 4).mask 0 = none := by
  decide

theorem witness_UnpackallWritesTheCoveredArea :
    (sized 9 8 0 0).geomOk = false ∧ ready.geomOk = true ∧ ready.gridWritten ∧ 1 < ready.width ∧ 3 < ready.height ∧
    ready.pixelCount ≤ 8 ∧ (sized 1 1 2 4).geomOk = true ∧ ¬ (sized 1 1 2 4).gridWritten := by decide

theorem witness_RenderUnpackRenderIsIdempotent :
    (tones 0 1).geomOk = true ∧ (tones 0 1).coveredPure ∧ (tones 0 1).ctrl.getLsbD 0 = false ∧ (tones 0 1).ctrl.getLsbD 1 = false ∧
    1 ≤ (tones 0 1).thresh.toNat ∧ 1 ≤ (tones 0 255).thresh.toNat := by decide

theorem witness_InvertedRoundTripComplements :
    (tones 1 254).geomOk = true ∧ (tones 1 254).coveredPure ∧ (tones 1 254).ctrl.getLsbD 0 = true ∧
    (tones 1 254).ctrl.getLsbD 1 = false ∧ (tones 1 254).thresh.toNat < 255 ∧ (tones 1 0).thresh.toNat < 255 ∧
    0 < (tones 1 254).cellCount := by decide

theorem witness_GridPixLocatesThePixel : (sized 2 2 0 8).bufW.toNat = 0 ∧ (sized 2 2 4 8).bufW.toNat ≠ 0 := by decide

theorem witness_GridCellLocatesTheCell : (sized 0 2 4 8).cellCols.toNat = 0 ∧ (sized 2 2 4 8).cellCols.toNat ≠ 0 := by decide

theorem witness_LumaxyAnswersInsideTheBuffer :
    (sized 9 8 0 0).geomOk = false ∧ ready.geomOk = true ∧ ready.bufW.toNat ≤ { ready with arg0 := 2 }.arg0.toNat ∧
    ready.bufH.toNat ≤ { ready with arg1 := 4 }.arg1.toNat ∧ { ready with arg0 := 1 }.arg0.toNat < ready.bufW.toNat ∧
    { ready with arg1 := 3 }.arg1.toNat < ready.bufH.toNat ∧ Memory.read ready.pix (3 * 2 + 1) = some (gray 255) ∧
    Memory.read (sized 1 1 2 4).pix 7 = none := by decide

theorem witness_GridCalculatorsAgree :
    { sized 2 2 4 8 with arg0 := 31 }.covered (31 % 4) (31 / 4) = true ∧ { sized 2 2 4 8 with arg0 := 0 }.covered 0 0 = true := by decide

end Sys2Proof.Tests
end

section
/-! What the pseudocode of a command can do to a state, and where it can stop: one argument over the shape of a `Run`, used for
every command. -/

namespace Sys2Proof.Machine

/-! ### States a command's pseudocode can reach -/

/-- `s` with the memories and the result registers of `u`: the only fields a command's pseudocode writes (R93, column "Writes"). -/
def State.withOutputs (s u : State) : State :=
  { s with lut := u.lut, mask := u.mask, pix := u.pix, res0 := u.res0, res1 := u.res1, res2 := u.res2, res3 := u.res3 }

/-- The entry that a fault names is unwritten (R40). -/
def State.unwrittenAt (s : State) : Fault → Prop
  | .unwrittenLut c => Memory.read s.lut c = none
  | .unwrittenMask i => Memory.read s.mask i = none
  | .unwrittenPix p => Memory.read s.pix p = none

/-- What every piece of a command's pseudocode keeps on its way from `s` to `t`: all but the outputs is as in `s`, and an entry
written in `s` is still written in `t`. -/
structure State.Evolves (s t : State) : Prop where
  onlyOutputs : t = s.withOutputs t
  staysWritten : ∀ f, t.unwrittenAt f → s.unwrittenAt f

theorem State.Evolves.refl (s : State) : s.Evolves s := ⟨rfl, fun _ h => h⟩

theorem State.Evolves.trans {s t u : State} (hst : s.Evolves t) (htu : t.Evolves u) : s.Evolves u where
  onlyOutputs := by
    calc u = t.withOutputs u := htu.onlyOutputs
      _ = (s.withOutputs t).withOutputs u := by rw [← hst.onlyOutputs]
      _ = s.withOutputs u := rfl
  staysWritten f h := hst.staysWritten f (htu.staysWritten f h)

theorem State.Evolves.depths {s t : State} (h : s.Evolves t) : t.maskDepth = s.maskDepth ∧ t.pixDepth = s.pixDepth := by
  rw [h.onlyOutputs]
  exact ⟨rfl, rfl⟩

/-- An entry unwritten after a write was so before it. -/
theorem Memory.read_eq_none_of_write {w : Nat} {m : Memory w} {a b : Nat} {v : BitVec w}
    (h : Memory.read (Memory.write m a v) b = none) : Memory.read m b = none := by
  rw [Memory.read_write] at h
  split at h
  · cases h
  · exact h

theorem evolves_lutWrite (c : Nat) (v : Byte) (s : State) : s.Evolves (lutWrite c v s) where
  onlyOutputs := rfl
  staysWritten
    | .unwrittenLut _, h => Memory.read_eq_none_of_write h
    | .unwrittenMask _, h => h
    | .unwrittenPix _, h => h

theorem evolves_maskWrite (i : Nat) (v : Byte) (s : State) : s.Evolves (maskWrite i v s) where
  onlyOutputs := rfl
  staysWritten
    | .unwrittenLut _, h => h
    | .unwrittenMask _, h => Memory.read_eq_none_of_write h
    | .unwrittenPix _, h => h

theorem evolves_pixWrite (p : Nat) (v : Word) (s : State) : s.Evolves (pixWrite p v s) where
  onlyOutputs := rfl
  staysWritten
    | .unwrittenLut _, h => h
    | .unwrittenMask _, h => h
    | .unwrittenPix _, h => Memory.read_eq_none_of_write h

/-- A state with the memories of `s` that differs from it in the result registers alone is one that `s` evolves to. -/
theorem evolves_of_same_memories {s t : State} (h : t = s.withOutputs t) (hl : t.lut = s.lut) (hm : t.mask = s.mask)
    (hp : t.pix = s.pix) : s.Evolves t where
  onlyOutputs := h
  staysWritten f hf := by
    cases f with
    | unwrittenLut c => simpa only [State.unwrittenAt, hl] using hf
    | unwrittenMask i => simpa only [State.unwrittenAt, hm] using hf
    | unwrittenPix p => simpa only [State.unwrittenAt, hp] using hf

theorem evolves_writeRes0 (v : Word) (s : State) : s.Evolves (writeRes0 v s) := evolves_of_same_memories rfl rfl rfl rfl

theorem evolves_writeRes10 (v1 v0 : Word) (s : State) : s.Evolves (writeRes1 v1 (writeRes0 v0 s)) :=
  evolves_of_same_memories rfl rfl rfl rfl

theorem evolves_writeRes3210 (v3 v2 v1 v0 : Word) (s : State) :
    s.Evolves (writeRes3 v3 (writeRes2 v2 (writeRes1 v1 (writeRes0 v0 s)))) :=
  evolves_of_same_memories rfl rfl rfl rfl

/-! ### Pieces of pseudocode that evolve their state -/

/-- A piece of pseudocode run from `s`: where it ends well, `s` evolves to its result, and where it stops, the entry it stops at is
unwritten in `s` itself. -/
structure Run.EvolvesFrom (s : State) (r : Run State) : Prop where
  ok_evolves : ∀ t, r = .ok t → s.Evolves t
  stop_unwritten : ∀ f, r = .stop f → s.unwrittenAt f

theorem Run.EvolvesFrom.ok {s t : State} (h : s.Evolves t) : Run.EvolvesFrom s (.ok t) where
  ok_evolves _ e := by cases e; exact h
  stop_unwritten _ e := by cases e

theorem Run.EvolvesFrom.raise (s : State) (c : ErrCause) : Run.EvolvesFrom s (.raise c) where
  ok_evolves _ e := by cases e
  stop_unwritten _ e := by cases e

theorem Run.EvolvesFrom.stop {s : State} {x : Fault} (h : s.unwrittenAt x) : Run.EvolvesFrom s (.stop x) where
  ok_evolves _ e := by cases e
  stop_unwritten _ e := by cases e; exact h

/-- A read or a check before a piece of pseudocode: it may stop at an unwritten entry, and leaves the state as it is. -/
theorem Run.EvolvesFrom.bind_read {α : Type} {s : State} {r : Run α} {f : α → Run State}
    (hr : ∀ x, r = .stop x → s.unwrittenAt x) (hf : ∀ a, Run.EvolvesFrom s (f a)) : Run.EvolvesFrom s (r.bind f) := by
  cases r with
  | ok a => exact hf a
  | raise c => exact .raise s c
  | stop x => exact .stop (hr x rfl)

/-- One piece after another. A stop of the second is at an entry unwritten before the first, which unwrites nothing. -/
theorem Run.EvolvesFrom.bind {s : State} {r : Run State} {f : State → Run State} (hr : Run.EvolvesFrom s r)
    (hf : ∀ t, Run.EvolvesFrom t (f t)) : Run.EvolvesFrom s (r.bind f) where
  ok_evolves u h := by
    obtain ⟨t, ht, hu⟩ := Run.bind_eq_ok.1 h
    exact (hr.ok_evolves t ht).trans ((hf t).ok_evolves u hu)
  stop_unwritten x h := by
    rcases Run.bind_eq_stop.1 h with h | ⟨t, ht, hx⟩
    · exact hr.stop_unwritten x h
    · exact (hr.ok_evolves t ht).staysWritten x ((hf t).stop_unwritten x hx)

theorem Run.EvolvesFrom.forUpTo {n : Nat} {body : Nat → State → Run State} {s : State}
    (h : ∀ i t, Run.EvolvesFrom t (body i t)) : Run.EvolvesFrom s (forUpTo n body s) := by
  induction n with
  | zero => exact .ok (.refl s)
  | succ n ih => exact ih.bind (h n)

theorem require_ne_stop {ok : Bool} {c : ErrCause} {x : Fault} : Run.require ok c ≠ .stop x := by cases ok <;> simp

/-- A check before a piece of pseudocode. -/
theorem Run.EvolvesFrom.require {s : State} {ok : Bool} {c : ErrCause} {f : Unit → Run State}
    (hf : Run.EvolvesFrom s (f ())) : Run.EvolvesFrom s ((Run.require ok c).bind f) :=
  .bind_read (fun _ h => absurd h require_ne_stop) fun _ => hf

theorem maskRead_stop_unwritten {i : Nat} {s : State} (x : Fault) (h : maskRead i s = .stop x) : s.unwrittenAt x := by
  obtain ⟨hn, rfl⟩ := maskRead_eq_stop.1 h
  exact hn

theorem pixRead_stop_unwritten {p : Nat} {s : State} (x : Fault) (h : pixRead p s = .stop x) : s.unwrittenAt x := by
  obtain ⟨hn, rfl⟩ := pixRead_eq_stop.1 h
  exact hn

theorem curveWord_stop_unwritten {w : Word} {s : State} (x : Fault) (h : curveWord w s = .stop x) : s.unwrittenAt x := by
  obtain ⟨c, rfl, hn⟩ := curveWord_eq_stop h
  exact hn

/-! ### The commands' bodies -/

theorem contrastBody_evolves (s : State) : Run.EvolvesFrom s (contrastBody s) :=
  .forUpTo fun p t =>
    .bind_read (pixRead_stop_unwritten (p := p)) fun _ =>
    .bind_read curveWord_stop_unwritten fun w' => .ok (evolves_pixWrite p w' t)

theorem lutgenEntry_evolves (a : Int) (c : Nat) (s : State) : Run.EvolvesFrom s (lutgenEntry a c s) :=
  .ok (evolves_lutWrite c _ s)

theorem clearBody_evolves (s : State) : Run.EvolvesFrom s (clearBody s) :=
  .forUpTo fun i t => .ok (evolves_maskWrite i 0#8 t)

theorem setDot_evolves (x y : Nat) (s : State) : Run.EvolvesFrom s (setDot x y s) :=
  .bind_read maskRead_stop_unwritten fun _ => .ok (evolves_maskWrite _ _ s)

theorem setDot_if_evolves (b : Bool) (x y : Nat) (s : State) :
    Run.EvolvesFrom s (if b then setDot x y s else .ok s) := by
  cases b with
  | true => exact setDot_evolves x y s
  | false => exact .ok (.refl s)

theorem encodeBody_evolves (s : State) : Run.EvolvesFrom s (encodeBody s) :=
  .forUpTo fun y _ => .forUpTo fun x t =>
    .bind_read pixRead_stop_unwritten fun w => setDot_if_evolves (t.dotOn w) x y t

theorem renderBody_evolves (s : State) : Run.EvolvesFrom s (renderBody s) := by
  refine (clearBody_evolves s).bind fun t => .bind ?_ encodeBody_evolves
  split
  · exact contrastBody_evolves t
  · exact .ok (.refl t)

theorem encpixBody_evolves (a x y : Nat) (s : State) : Run.EvolvesFrom s (encpixBody a x y s) :=
  .bind_read pixRead_stop_unwritten fun w =>
    (setDot_if_evolves (s.covered x y && s.dotOn w) x y s).bind fun _ => .ok (evolves_writeRes3210 _ _ _ _ _)

theorem unpackDot_evolves (m : Byte) (col row dy dx : Nat) (s : State) :
    Run.EvolvesFrom s (unpackDot m col row dy dx s) := by
  rw [unpackDot_eq]
  split
  · exact .ok (evolves_pixWrite _ _ s)
  · exact .ok (.refl s)

theorem unpackCell_evolves (i : Nat) (s : State) : Run.EvolvesFrom s (unpackCell i s) :=
  .bind_read maskRead_stop_unwritten fun m =>
    .forUpTo fun dy _ => .forUpTo fun dx => unpackDot_evolves m _ _ dy dx

/-! ### The commands -/

/-- Every command is the end of a piece of pseudocode that evolves the state it starts in. -/
theorem exec_evolves (i : Instr) (s : State) : ∃ r, exec i s = finish s r ∧ Run.EvolvesFrom s r := by
  cases i with
  | nop => exact ⟨_, rfl, .ok (.refl s)⟩
  | clear => exact ⟨_, rfl, .require (clearBody_evolves s)⟩
  | lutgen => exact ⟨forUpTo Config.lutSize (lutgenEntry s.amount) s, rfl, .forUpTo (lutgenEntry_evolves s.amount)⟩
  | contrast => exact ⟨_, rfl, .require (contrastBody_evolves s)⟩
  | encode => exact ⟨_, rfl, .require (encodeBody_evolves s)⟩
  | render => exact ⟨_, rfl, .require (renderBody_evolves s)⟩
  | encpix => exact ⟨_, rfl, .require (.require (encpixBody_evolves _ _ _ s))⟩
  | luma => exact ⟨_, rfl, .ok (evolves_writeRes0 _ s)⟩
  | curve => exact ⟨_, rfl, .bind_read curveWord_stop_unwritten fun w => .ok (evolves_writeRes0 w s)⟩
  | decide => exact ⟨_, rfl, .ok (evolves_writeRes0 _ s)⟩
  | lumaxy =>
    exact ⟨_, rfl, .require (.require (.bind_read pixRead_stop_unwritten fun _ => .ok (evolves_writeRes0 _ s)))⟩
  | glyphEnc => exact ⟨_, rfl, .ok (evolves_writeRes0 _ s)⟩
  | glyphCell =>
    exact ⟨_, rfl, .require (.require (.bind_read maskRead_stop_unwritten fun _ => .ok (evolves_writeRes10 _ _ s)))⟩
  | glyphDec => exact ⟨_, rfl, .ok (evolves_writeRes10 _ _ s)⟩
  | setglyph =>
    exact ⟨_, rfl, .require (.require (.ok ((evolves_maskWrite _ _ s).trans (evolves_writeRes10 _ _ _))))⟩
  | unpack => exact ⟨_, rfl, .require (.require (unpackCell_evolves _ s))⟩
  | unpackall => exact ⟨_, rfl, .require (.forUpTo unpackCell_evolves)⟩
  | gridPix => exact ⟨_, rfl, .require (.ok (evolves_writeRes3210 _ _ _ _ s))⟩
  | gridCell => exact ⟨_, rfl, .require (.ok (evolves_writeRes3210 _ _ _ _ s))⟩

/-- A command that answers a next state has evolved its state and completed, or has reported an error over the state it
started in (R220, R221). -/
theorem exec_next_cases {i : Instr} {s t : State} (h : exec i s = .next t) :
    (∃ u, s.Evolves u ∧ t = complete u) ∨ ∃ c, t = complete (raiseError c s) := by
  obtain ⟨r, hr, hev⟩ := exec_evolves i s
  rcases finish_eq_next.1 (hr ▸ h) with ⟨u, hu, rfl⟩ | ⟨c, _, rfl⟩
  · exact .inl ⟨u, hev.ok_evolves u hu, rfl⟩
  · exact .inr ⟨c, rfl⟩

theorem exec_ne_refused (i : Instr) (s : State) (x : Refusal) : exec i s ≠ .refused x := by
  obtain ⟨r, hr, _⟩ := exec_evolves i s
  exact hr ▸ finish_ne_refused s r x

/-- The entry a command's fault names was unwritten when the command started. -/
theorem exec_fault_unwritten {i : Instr} {s : State} {f : Fault} (h : exec i s = .fault f) : s.unwrittenAt f := by
  obtain ⟨r, hr, hev⟩ := exec_evolves i s
  exact hev.stop_unwritten f (finish_eq_fault.1 (hr ▸ h))

end Sys2Proof.Machine
end

section
/-! Equations of a step and of a run for each kind of event, what a host access to a register does, and the fields of the status
word. -/

namespace Sys2Proof.Machine

/-! ### Steps and runs -/

/-- The idle block takes the host's next access. -/
theorem step_idle_host {s : State} {a : Access} {rest : List Event} (hidle : s.inFlight = none)
    (hbox : s.inbox = .host a :: rest) : step s = hostAccess a (setInbox rest s) := by
  simp only [step, advance, hidle, idleTurn, hbox]

/-- A `STATUS` read that need not wait is answered at once, whether or not a command is in flight (R73). -/
theorem step_poll {s : State} {rest : List Event} (hbox : s.inbox = .poll :: rest) :
    step s = .next (pollStatus (setInbox rest s)) := by
  cases hf : s.inFlight with
  | none => simp only [step, advance, hf, idleTurn, hbox]
  | some w => simp only [step, advance, hf, busyTurn, hbox]

/-- The engine's turn runs the command in flight. -/
theorem step_engine {s : State} {w : Word} {i : Instr} {rest : List Event} (hbusy : s.inFlight = some w)
    (hdec : decode w = .ok i) (hbox : s.inbox = .engine :: rest) : step s = exec i (setInbox rest s) := by
  simp only [step, advance, hbusy, busyTurn, hbox, runCommand, hdec]

/-- A run goes on from the state its first step answers. -/
theorem run_succ_of_next {s t : State} (k : Nat) (h : step s = .next t) :
    Host.Core.run Sys2Proof.core (k + 1) s = Host.Core.run Sys2Proof.core k t := by
  have hcore : Host.Core.step Sys2Proof.core s = .next t := h
  simp only [Host.Core.run, hcore]

/-- A run of one step is that step. -/
theorem run_one (s : State) : Host.Core.run Sys2Proof.core 1 s = step s := by
  have hcore : Host.Core.step Sys2Proof.core s = step s := rfl
  cases h : step s <;> simp only [Host.Core.run, hcore, h] <;> rfl

/-- Early `STATUS` reads change nothing but the inbox, which they use up, and the replies: each is answered by the same word. -/
theorem run_polls (n k : Nat) (s : State) (later : List Event) (hbox : s.inbox = List.replicate n .poll ++ later) :
    Host.Core.run Sys2Proof.core (k + n) s =
      Host.Core.run Sys2Proof.core k
        { s with inbox := later, replies := s.replies ++ List.replicate n (statusWord s) } := by
  induction n generalizing s with
  | zero =>
    obtain rfl : s.inbox = later := hbox
    simp
  | succ n ih =>
    rw [List.replicate_succ, List.cons_append] at hbox
    calc Host.Core.run Sys2Proof.core (k + n + 1) s
        = Host.Core.run Sys2Proof.core (k + n) (pollStatus (setInbox (List.replicate n .poll ++ later) s)) :=
          run_succ_of_next (k + n) (step_poll hbox)
      _ = Host.Core.run Sys2Proof.core k
            { s with inbox := later, replies := s.replies ++ [statusWord s] ++ List.replicate n (statusWord s) } :=
          ih _ rfl
      _ = _ := by rw [List.append_assoc, List.singleton_append, ← List.replicate_succ]

/-! ### Host accesses to registers -/

/-- A register's offset names that register in every state (R21, R60). -/
theorem busTarget_reg {off : Offset} {r : Reg} (h : off.toNat = regOffset r) (s : State) : busTarget off s = .reg r := by
  have aligned : regOffset r % 4 = 0 := by cases r <;> rfl
  have inPage : regOffset r < 0x1000 := by cases r <;> decide
  simp [busTarget, h, aligned, inPage]

/-- No register holds the host's events to come. -/
theorem readReg_setInbox (r : Reg) (events : List Event) (s : State) : readReg r (setInbox events s) = readReg r s := by
  cases r <;> rfl

theorem writeReg_setInbox (r : Reg) (v : Word) (events : List Event) (s : State) :
    writeReg r v (setInbox events s) = setInbox events (writeReg r v s) := by
  cases r <;> rfl

@[simp] theorem writeReg_maskDepth (r : Reg) (v : Word) (s : State) : (writeReg r v s).maskDepth = s.maskDepth := by
  cases r <;> rfl

@[simp] theorem writeReg_pixDepth (r : Reg) (v : Word) (s : State) : (writeReg r v s).pixDepth = s.pixDepth := by
  cases r <;> rfl

/-- Only a write to `CMD` starts a command (R30). -/
theorem writeReg_inFlight {r : Reg} (h : r ≠ .cmd) (v : Word) (s : State) : (writeReg r v s).inFlight = s.inFlight := by
  cases r with
  | cmd => exact absurd rfl h
  | _ => rfl

/-- A host read of a register by the idle block. -/
theorem step_read_reg (r : Reg) {s : State} {off : Offset} {rest : List Event} (hoff : off.toNat = regOffset r)
    (hidle : s.inFlight = none) (hbox : s.inbox = .host (.read off) :: rest) :
    step s = .next (reply (readReg r s) (setInbox rest s)) := by
  rw [step_idle_host hidle hbox]
  simp only [hostAccess, hostRead, busTarget_reg hoff, readReg_setInbox]

/-- A host write of a register of the idle block. -/
theorem step_write_reg (r : Reg) {s : State} {off : Offset} {v : Word} {rest : List Event} (hoff : off.toNat = regOffset r)
    (hidle : s.inFlight = none) (hbox : s.inbox = .host (.write off v) :: rest) :
    step s = .next (setInbox rest (writeReg r v s)) := by
  rw [step_idle_host hidle hbox]
  simp only [hostAccess, hostWrite, busTarget_reg hoff, writeReg_setInbox]

/-- A host write of a register but `CMD`, read back at once. -/
theorem run_write_read_reg (r : Reg) {s : State} {off : Offset} {v : Word} {rest : List Event}
    (hoff : off.toNat = regOffset r) (hr : r ≠ .cmd) (hidle : s.inFlight = none)
    (hbox : s.inbox = .host (.write off v) :: .host (.read off) :: rest) :
    Host.Core.run Sys2Proof.core 2 s =
      .next (reply (readReg r (writeReg r v s)) (setInbox rest (writeReg r v s))) := by
  have hwrite := step_write_reg r hoff hidle hbox
  have hidle' : (setInbox (.host (.read off) :: rest) (writeReg r v s)).inFlight = none := by
    rw [setInbox_inFlight, writeReg_inFlight hr, hidle]
  have hread := step_read_reg r hoff hidle' (setInbox_inbox _ _)
  rw [run_succ_of_next 1 hwrite, run_one, hread, readReg_setInbox]
  rfl

/-- The low `n` bits of a word, with zeros above, as a mask keeps them. -/
theorem zeroExtend_low_bits (v : Word) (n : Nat) (hn : n ≤ 32) :
    (v.extractLsb' 0 n).zeroExtend 32 = v &&& BitVec.ofNat 32 (2 ^ n - 1) := by
  apply BitVec.eq_of_toNat_eq
  have hpow : 2 ^ n ≤ 2 ^ 32 := Nat.pow_le_pow_right (by decide) hn
  have hpos : 0 < 2 ^ n := Nat.two_pow_pos n
  have hmask : (2 ^ n - 1) % 2 ^ 32 = 2 ^ n - 1 := Nat.mod_eq_of_lt (by omega)
  have hlow : v.toNat % 2 ^ n % 2 ^ 32 = v.toNat % 2 ^ n := Nat.mod_eq_of_lt (by have := Nat.mod_lt v.toNat hpos; omega)
  simp only [BitVec.truncate_eq_setWidth, BitVec.toNat_setWidth, BitVec.extractLsb'_toNat, Nat.shiftRight_zero,
    BitVec.toNat_and, BitVec.toNat_ofNat, hmask, hlow, Nat.and_two_pow_sub_one_eq_mod]

/-! ### The status word -/

/-- The four flag bits of the status word (R31). -/
theorem statusFlags_getLsbD : ∀ (err done busy : Bool) (k : Nat), k < 4 →
    (0#1 ++ (BitVec.ofBool err ++ (BitVec.ofBool done ++ BitVec.ofBool busy))).getLsbD k =
      [busy, done, err, false].getD k false := by
  decide

/-- The status word bit by bit: four flags, then `ERRCODE`, then zeros (R31). -/
theorem statusWord_getLsbD (s : State) (k : Nat) :
    (statusWord s).getLsbD k =
      if k < 4 then [s.busy, s.done, s.err, false].getD k false else s.errcode.getLsbD (k - 4) := by
  have split : (statusWord s).getLsbD k =
      if k < 4 then (0#1 ++ (BitVec.ofBool s.err ++ (BitVec.ofBool s.done ++ BitVec.ofBool s.busy))).getLsbD k
      else (0#24 ++ s.errcode).getLsbD (k - 4) := BitVec.getLsbD_append
  rw [split]
  split
  case isTrue h => exact statusFlags_getLsbD s.err s.done s.busy k h
  case isFalse _ =>
    rw [BitVec.getLsbD_append]
    split
    case isTrue _ => rfl
    case isFalse hk => rw [BitVec.getLsbD_zero, BitVec.getLsbD_of_ge s.errcode (k - 4) (by omega)]

theorem statusWord_busy (s : State) : (statusWord s).getLsbD 0 = s.inFlight.isSome := by
  rw [statusWord_getLsbD]
  rfl

theorem statusWord_done (s : State) : (statusWord s).getLsbD 1 = s.done := by rw [statusWord_getLsbD]; rfl

theorem statusWord_err (s : State) : (statusWord s).getLsbD 2 = s.err := by rw [statusWord_getLsbD]; rfl

theorem statusWord_bit3 (s : State) : (statusWord s).getLsbD 3 = false := by rw [statusWord_getLsbD]; rfl

theorem statusWord_errcode (s : State) : (statusWord s).extractLsb' 4 4 = s.errcode := by
  ext k hk
  simp [statusWord_getLsbD, BitVec.getLsbD_eq_getElem, hk]

theorem statusWord_high (s : State) : (statusWord s).extractLsb' 8 24 = 0#24 := by
  ext k hk
  have below : ¬ 8 + k < 4 := by omega
  have above : s.errcode.getLsbD (8 + k - 4) = false := BitVec.getLsbD_of_ge _ _ (by omega)
  simp [statusWord_getLsbD, below, above]

/-- Acknowledging as R31 words it: a field is cleared where its bit of `v` is 1. -/
theorem acknowledge_eq (v : Word) (s : State) :
    acknowledge v s =
      { s with
        done := if v.getLsbD 1 = true then false else s.done
        err := if v.getLsbD 2 = true then false else s.err
        errcode := if v.getLsbD 2 = true then 0#4 else s.errcode } := by
  unfold acknowledge
  cases v.getLsbD 1 <;> cases v.getLsbD 2 <;> simp

/-! ### The depths -/

/-- What a host read answers: a value, and a bus error where there is one (R63, R64). -/
theorem hostRead_eq_next {off : Offset} {s t : State} (h : hostRead off s = .next t) :
    ∃ x, t = reply x s ∨ t = reply x (busError s) := by
  have entry {w : Nat} {m : Option (BitVec w)} {f : Fault} (h : replyEntry m f s = .next t) : ∃ x, t = reply x s := by
    cases m with
    | none => cases h
    | some v => cases h; exact ⟨_, rfl⟩
  unfold hostRead at h
  split at h
  case h_1 => cases h; exact ⟨_, .inl rfl⟩
  case h_2 | h_3 | h_4 => exact (entry h).imp fun _ => .inl
  case h_5 | h_6 => cases h; exact ⟨_, .inr rfl⟩

/-- A host access changes neither depth. -/
theorem hostAccess_keeps_depths {a : Access} {s t : State} (h : hostAccess a s = .next t) :
    t.maskDepth = s.maskDepth ∧ t.pixDepth = s.pixDepth := by
  cases a with
  | read off => obtain ⟨x, rfl | rfl⟩ := hostRead_eq_next h <;> exact ⟨rfl, rfl⟩
  | write off v =>
    obtain rfl : hostWrite off v s = t := by injection h
    unfold hostWrite
    cases busTarget off s with
    | reg r => exact ⟨writeReg_maskDepth r v s, writeReg_pixDepth r v s⟩
    | _ => exact ⟨rfl, rfl⟩

/-- A command changes neither depth. -/
theorem exec_keeps_depths {i : Instr} {s t : State} (h : exec i s = .next t) :
    t.maskDepth = s.maskDepth ∧ t.pixDepth = s.pixDepth := by
  rcases exec_next_cases h with ⟨u, hu, rfl⟩ | ⟨c, rfl⟩
  · exact hu.depths
  · exact ⟨rfl, rfl⟩

theorem runCommand_keeps_depths {w : Word} {s t : State} (h : runCommand w s = .next t) :
    t.maskDepth = s.maskDepth ∧ t.pixDepth = s.pixDepth := by
  rcases runCommand_cases w s with ⟨i, _, hi⟩ | ⟨_, _, he⟩
  · exact exec_keeps_depths (hi ▸ h)
  · cases he.symm.trans h
    exact ⟨rfl, rfl⟩

end Sys2Proof.Machine
end

section
/-! The statements of the family 10_state. -/

namespace Sys2Proof.Proofs

open Sys2Proof Sys2Proof.Machine

/-- Settles O30: every command's pseudocode evolves its state, so its stops are at entries unwritten from the start. -/
theorem commandsStopOnlyAtUnwrittenEntries : Obligations.CommandsStopOnlyAtUnwrittenEntries := fun i s =>
  ⟨exec_ne_refused i s, fun _ h => exec_fault_unwritten h, fun _ h => exec_fault_unwritten h,
    fun _ h => exec_fault_unwritten h⟩

/-- Settles O14, over the cases of a step. -/
theorem stepKeepsParameters : Obligations.StepKeepsParameters := by
  intro s t h
  have answered {u : State} (hs : step s = .next u) : u = t := by
    rw [h] at hs
    injection hs with hs
    exact hs.symm
  rcases step_cases s with ⟨_, _, hs⟩ | ⟨rest, _, _, hs⟩ | ⟨rest, _, hs⟩ | ⟨rest, _, hs⟩ | ⟨a, rest, _, _, hs⟩ |
    ⟨w, rest, _, _, hs⟩ | ⟨w, _, _, hs⟩
  · exact answered hs ▸ ⟨rfl, rfl⟩
  · exact answered hs ▸ ⟨rfl, rfl⟩
  · exact answered hs ▸ ⟨rfl, rfl⟩
  · exact answered hs ▸ ⟨rfl, rfl⟩
  · exact hostAccess_keeps_depths (s := setInbox rest s) (hs ▸ h)
  · exact runCommand_keeps_depths (s := setInbox rest s) (hs ▸ h)
  · exact runCommand_keeps_depths (hs ▸ h)

/-- Settles O7: the early reads by induction on their number, then the engine's turn. -/
theorem busyPollsThenCompletes : Obligations.BusyPollsThenCompletes := by
  intro n s w i rest hbusy hdec hbox
  refine ⟨by rw [statusWord_busy, hbusy]; rfl, ?_⟩
  rw [Nat.add_comm n 1, run_polls n 1 s _ hbox, run_one]
  exact step_engine hbusy hdec rfl

/-- Settles O16: each register by the write-then-read law, with the bits it implements. -/
theorem registerWriteThenRead : Obligations.RegisterWriteThenRead := by
  intro s v rest hidle
  have low2 := zeroExtend_low_bits v 2 (by decide)
  have low8 := zeroExtend_low_bits v 8 (by decide)
  have low16 := zeroExtend_low_bits v 16 (by decide)
  refine ⟨fun h => ?_, fun h => ?_, fun h => ?_, fun h => ?_, fun h => ?_, fun h => ?_, fun h => ?_, fun h => ?_,
    fun h => ?_, fun h => ?_⟩
  · exact low2 ▸ run_write_read_reg .ctrl rfl (by decide) hidle h
  · exact low8 ▸ run_write_read_reg .thresh rfl (by decide) hidle h
  · exact run_write_read_reg .contrastAmount rfl (by decide) hidle h
  · exact low16 ▸ run_write_read_reg .cellCols rfl (by decide) hidle h
  · exact low16 ▸ run_write_read_reg .cellRows rfl (by decide) hidle h
  · exact low16 ▸ run_write_read_reg .bufW rfl (by decide) hidle h
  · exact low16 ▸ run_write_read_reg .bufH rfl (by decide) hidle h
  · exact run_write_read_reg .arg0 rfl (by decide) hidle h
  · exact run_write_read_reg .arg1 rfl (by decide) hidle h
  · exact low2 ▸ run_write_read_reg .irqEn rfl (by decide) hidle h

/-- Settles O18: both kinds of read return the status word, and a write acknowledges. -/
theorem statusReadAndAcknowledge : Obligations.StatusReadAndAcknowledge := by
  intro s v rest
  refine ⟨fun hidle hbox => ?_, fun hbusy hbox => ?_, fun hidle hbox => ?_⟩
  · have busy0 : (statusWord s).getLsbD 0 = false := by rw [statusWord_busy, hidle]; rfl
    exact ⟨statusWord s, step_read_reg .status rfl hidle hbox, busy0, statusWord_done s, statusWord_err s,
      statusWord_bit3 s, statusWord_errcode s, statusWord_high s⟩
  · have busy1 : (statusWord s).getLsbD 0 = true := by rw [statusWord_busy, Option.isSome_iff_ne_none]; exact hbusy
    exact ⟨statusWord s, step_poll hbox, busy1, statusWord_bit3 s, statusWord_high s⟩
  · rw [step_write_reg .status rfl hidle hbox, writeReg, acknowledge_eq]
    rfl

/-- Settles O6, by the read and write laws of registers at `CMD`. -/
theorem cmdWriteStartsCommand : Obligations.CmdWriteStartsCommand := fun s w _ hidle =>
  ⟨fun hbox => ⟨step_write_reg .cmd rfl hidle hbox, statusWord_busy { s with inFlight := some w }⟩,
    fun hbox => step_read_reg .cmd rfl hidle hbox⟩

/-- Settles O17: the seven offsets are those of read-only registers, which a write leaves as they are. -/
theorem readOnlyRegistersIgnoreWrites : Obligations.ReadOnlyRegistersIgnoreWrites := by
  intro s off v x rest hidle hreg
  obtain ⟨r, hoff, hignored, hvalue⟩ :
      ∃ r : Reg, off.toNat = regOffset r ∧ writeReg r v s = s ∧ readReg r s = x := by
    rcases hreg with ⟨rfl, rfl⟩ | ⟨rfl, rfl⟩ | ⟨rfl, rfl⟩ | ⟨rfl, rfl⟩ | ⟨rfl, rfl⟩ | ⟨rfl, rfl⟩ | ⟨rfl, rfl⟩
    · exact ⟨.id, rfl, rfl, rfl⟩
    · exact ⟨.res0, rfl, rfl, rfl⟩
    · exact ⟨.res1, rfl, rfl, rfl⟩
    · exact ⟨.res2, rfl, rfl, rfl⟩
    · exact ⟨.res3, rfl, rfl, rfl⟩
    · exact ⟨.maskDepth, rfl, rfl, rfl⟩
    · exact ⟨.pixDepth, rfl, rfl, rfl⟩
  refine ⟨fun hbox => ?_, fun hbox => ?_⟩
  · rw [step_write_reg r hoff hidle hbox, hignored]
    rfl
  · rw [step_read_reg r hoff hidle hbox, hvalue]
    rfl

end Sys2Proof.Proofs
end

section
/-! Sound states: what each operation on the state keeps, one argument over the shape of a `Run` for the commands, and the host's
accesses. -/

namespace Sys2Proof.Machine

/-! ### Operations on a sound state -/

/-- An entry that is written lies inside its memory. -/
theorem Memory.lt_of_read {w n a : Nat} {m : Memory w} {v : BitVec w} (hm : Memory.below n m = true)
    (hr : Memory.read m a = some v) : a < n := by
  by_contra h
  cases (Memory.read_of_below n m a hm (Nat.le_of_not_lt h)).symm.trans hr

theorem sound_lutWrite {c : Nat} (v : Byte) {s : State} (h : Sound s) (hc : c < Config.lutSize) : Sound (lutWrite c v s) :=
  { h with
    lutCanonical := Memory.wf_write s.lut c v h.lutCanonical
    lutInRange := Memory.below_write _ s.lut c v h.lutInRange hc }

theorem sound_maskWrite {i : Nat} (v : Byte) {s : State} (h : Sound s) (hi : i < s.maskDepth) : Sound (maskWrite i v s) :=
  { h with
    maskCanonical := Memory.wf_write s.mask i v h.maskCanonical
    maskInRange := Memory.below_write _ s.mask i v h.maskInRange hi }

theorem sound_pixWrite {p : Nat} (v : Word) {s : State} (h : Sound s) (hp : p < s.pixDepth) : Sound (pixWrite p v s) :=
  { h with
    pixCanonical := Memory.wf_write s.pix p v h.pixCanonical
    pixInRange := Memory.below_write _ s.pix p v h.pixInRange hp }

theorem sound_writeRes0 (v : Word) {s : State} (h : Sound s) : Sound (writeRes0 v s) := { h with }

theorem sound_writeRes10 (v1 v0 : Word) {s : State} (h : Sound s) : Sound (writeRes1 v1 (writeRes0 v0 s)) := { h with }

theorem sound_writeRes3210 (v3 v2 v1 v0 : Word) {s : State} (h : Sound s) :
    Sound (writeRes3 v3 (writeRes2 v2 (writeRes1 v1 (writeRes0 v0 s)))) := { h with }

theorem sound_complete {s : State} (h : Sound s) : Sound (complete s) := { h with }

theorem sound_reply (v : Word) {s : State} (h : Sound s) : Sound (reply v s) := { h with }

theorem sound_setInbox (events : List Event) {s : State} (h : Sound s) : Sound (setInbox events s) := { h with }

/-- The codes of R223 are 1 to 4. -/
theorem ErrCause.code_bounds (c : ErrCause) : c.code.toNat ≤ 4 ∧ c.code ≠ 0#4 := by cases c <;> decide

/-- An error report keeps the first code or records its own, and neither is 0 (R221 to R223). -/
theorem sound_raiseError (c : ErrCause) {s : State} (h : Sound s) : Sound (raiseError c s) := by
  obtain ⟨assigned, nonzero⟩ := c.code_bounds
  refine { h with codeAssigned := ?_, codeIffError := ?_ }
  · rw [raiseError_errcode]
    split
    · exact h.codeAssigned
    · exact assigned
  · rw [raiseError_err, raiseError_errcode]
    split
    next herr => exact iff_of_true rfl (h.codeIffError.1 herr)
    next => exact iff_of_true rfl nonzero

/-- An acknowledgement clears `ERR` and `ERRCODE` together (R31). -/
theorem sound_acknowledge (v : Word) {s : State} (h : Sound s) : Sound (acknowledge v s) := by
  refine { h with codeAssigned := ?_, codeIffError := ?_ }
  · rw [acknowledge_errcode]
    split
    · exact Nat.zero_le 4
    · exact h.codeAssigned
  · rw [acknowledge_err, acknowledge_errcode]
    cases v.getLsbD 2 with
    | true => simp
    | false => simpa using h.codeIffError

/-- A reset empties the memories and clears `STATUS` (R260, R261). -/
theorem sound_afterReset {m p : Nat} (h : depthsWellFormed m p = true) (events : List Event) (answered : List Word) :
    Sound (State.afterReset m p events answered) where
  lutCanonical := rfl
  maskCanonical := rfl
  pixCanonical := rfl
  lutInRange := rfl
  maskInRange := rfl
  pixInRange := rfl
  codeAssigned := Nat.zero_le 4
  codeIffError := iff_of_false Bool.false_ne_true (fun hne => hne rfl)
  depthsInBounds := h

/-! ### Geometry (R224) -/

theorem geomOk_iff {s : State} : s.geomOk = true ↔ s.cellCount ≤ s.maskDepth ∧ s.pixelCount ≤ s.pixDepth := by
  simp [State.geomOk]

/-- A pixel of the buffer has its address below the buffer's pixel count (R39, R66). -/
theorem pixelIndex_lt_pixelCount {s : State} {x y : Nat} (hx : x < s.width) (hy : y < s.height) :
    s.pixelIndex x y < s.pixelCount :=
  calc y * s.width + x < y * s.width + s.width := Nat.add_lt_add_left hx _
    _ = (y + 1) * s.width := (Nat.succ_mul y s.width).symm
    _ ≤ s.height * s.width := Nat.mul_le_mul_right _ hy
    _ = s.width * s.height := Nat.mul_comm _ _

/-- A sound state whose geometry, with `n` cells, has passed the capacity check: what the loops over the grid carry on. -/
structure State.SoundGrid (n : Nat) (s : State) : Prop where
  sound : Sound s
  geomOk : s.geomOk = true
  cells : s.cellCount = n

theorem soundGrid_maskWrite {n i : Nat} (v : Byte) {s : State} (h : s.SoundGrid n) (hi : i < n) :
    (maskWrite i v s).SoundGrid n where
  sound := sound_maskWrite v h.sound (Nat.lt_of_lt_of_le (h.cells.symm ▸ hi) (geomOk_iff.1 h.geomOk).1)
  geomOk := h.geomOk
  cells := h.cells

theorem soundGrid_pixWrite {n x y : Nat} (v : Word) {s : State} (h : s.SoundGrid n) (hx : x < s.width) (hy : y < s.height) :
    (pixWrite (s.pixelIndex x y) v s).SoundGrid n where
  sound := sound_pixWrite v h.sound (Nat.lt_of_lt_of_le (pixelIndex_lt_pixelCount hx hy) (geomOk_iff.1 h.geomOk).2)
  geomOk := h.geomOk
  cells := h.cells

/-! ### Pieces of pseudocode that keep a property -/

/-- A piece of pseudocode run from `s`: if `s` has the property and the piece ends well, its result has the property. -/
def Run.Keeps (P : State → Prop) (s : State) (r : Run State) : Prop := P s → ∀ t, r = .ok t → P t

section
variable {P : State → Prop} {s : State}

theorem Run.Keeps.ok {t : State} (h : P s → P t) : Run.Keeps P s (.ok t) := by
  rintro hs _ ⟨⟩
  exact h hs

/-- A read or a check before a piece of pseudocode, which then knows what was read or checked. -/
theorem Run.Keeps.bind_read {α : Type} {r : Run α} {f : α → Run State} (hf : ∀ a, r = .ok a → Run.Keeps P s (f a)) :
    Run.Keeps P s (r.bind f) := by
  intro hs t ht
  obtain ⟨a, ha, hfa⟩ := Run.bind_eq_ok.1 ht
  exact hf a ha hs t hfa

theorem Run.Keeps.require {b : Bool} {c : ErrCause} {f : Unit → Run State} (hf : b = true → Run.Keeps P s (f ())) :
    Run.Keeps P s ((Run.require b c).bind f) := by
  refine .bind_read fun _ hb => hf ?_
  cases b with
  | true => rfl
  | false => cases hb

theorem Run.Keeps.bind {r : Run State} {f : State → Run State} (hr : Run.Keeps P s r) (hf : ∀ t, Run.Keeps P t (f t)) :
    Run.Keeps P s (r.bind f) := by
  intro hs u hu
  obtain ⟨t, ht, hft⟩ := Run.bind_eq_ok.1 hu
  exact hf t (hr hs t ht) u hft

theorem Run.Keeps.forUpTo {n : Nat} {body : Nat → State → Run State} (h : ∀ i t, i < n → Run.Keeps P t (body i t)) :
    Run.Keeps P s (forUpTo n body s) :=
  fun hs _ ht => forUpTo_keeps P hs (fun i a b hi ha hb => h i a hi ha b hb) ht

end

/-- Once the capacity check has passed, a piece that keeps sound grids keeps sound states. -/
theorem Run.Keeps.of_soundGrid {s : State} {r : Run State} (hgeom : s.geomOk = true)
    (h : Run.Keeps (State.SoundGrid s.cellCount) s r) : Run.Keeps Sound s r :=
  fun hs t ht => (h ⟨hs, hgeom, rfl⟩ t ht).sound

/-! ### The commands' bodies -/

theorem lutgen_keeps_sound (s : State) : Run.Keeps Sound s (forUpTo Config.lutSize (lutgenEntry s.amount) s) :=
  .forUpTo fun _ _ hc => .ok fun h => sound_lutWrite _ h hc

/-- `CONTRAST` writes each pixel it has read, so it writes inside the memory. -/
theorem contrastBody_keeps_sound (s : State) : Run.Keeps Sound s (contrastBody s) :=
  .forUpTo fun _ _ _ => .bind_read fun _ hw => .bind_read fun w' _ =>
    .ok fun h => sound_pixWrite w' h (Memory.lt_of_read h.pixInRange (pixRead_eq_ok.1 hw))

theorem clearBody_keeps_sound {s : State} (hgeom : s.geomOk = true) : Run.Keeps Sound s (clearBody s) :=
  .of_soundGrid hgeom <| .forUpTo fun _ _ hi => .ok fun h => soundGrid_maskWrite 0#8 h hi

/-- A dot is set in a mask entry that has been read, so inside the memory. -/
theorem setDot_keeps_sound (x y : Nat) (s : State) : Run.Keeps Sound s (setDot x y s) :=
  .bind_read fun m hm => .ok fun h => sound_maskWrite (m ||| dotBit x y) h (Memory.lt_of_read h.maskInRange (maskRead_eq_ok.1 hm))

theorem setDot_if_keeps_sound (b : Bool) (x y : Nat) (s : State) :
    Run.Keeps Sound s (if b then setDot x y s else .ok s) := by
  cases b with
  | true => exact setDot_keeps_sound x y s
  | false => exact .ok id

theorem encodeBody_keeps_sound (s : State) : Run.Keeps Sound s (encodeBody s) :=
  .forUpTo fun y _ _ => .forUpTo fun x t _ => .bind_read fun w _ => setDot_if_keeps_sound (t.dotOn w) x y t

theorem renderBody_keeps_sound {s : State} (hgeom : s.geomOk = true) : Run.Keeps Sound s (renderBody s) := by
  refine (clearBody_keeps_sound hgeom).bind fun t => .bind ?_ encodeBody_keeps_sound
  split
  · exact contrastBody_keeps_sound t
  · exact .ok id

theorem encpixBody_keeps_sound (a x y : Nat) (s : State) : Run.Keeps Sound s (encpixBody a x y s) :=
  .bind_read fun w _ => (setDot_if_keeps_sound (s.covered x y && s.dotOn w) x y s).bind fun _ =>
    .ok (sound_writeRes3210 _ _ _ _)

theorem unpackDot_keeps_soundGrid (n : Nat) (m : Byte) (col row dy dx : Nat) (s : State) :
    Run.Keeps (State.SoundGrid n) s (unpackDot m col row dy dx s) := by
  rw [unpackDot_eq]
  split
  next inside => exact .ok fun h => soundGrid_pixWrite _ h inside.1 inside.2
  next => exact .ok id

theorem unpackCell_keeps_soundGrid (n i : Nat) (s : State) : Run.Keeps (State.SoundGrid n) s (unpackCell i s) :=
  .bind_read fun m _ => .forUpTo fun dy _ _ => .forUpTo fun dx t _ => unpackDot_keeps_soundGrid n m _ _ dy dx t

theorem setglyph_keeps_sound {s : State} (hgeom : s.geomOk = true) (hi : s.arg0Index < s.cellCount) (m : Byte) (v1 v0 : Word) :
    Run.Keeps Sound s (.ok (writeRes1 v1 (writeRes0 v0 (maskWrite s.arg0Index m s)))) :=
  .of_soundGrid hgeom <| .ok fun h =>
    have written := soundGrid_maskWrite m h hi
    { written with sound := sound_writeRes10 v1 v0 written.sound }

/-! ### The commands -/

/-- Every command is the end of a piece of pseudocode that keeps sound states. -/
theorem exec_eq_finish_sound (i : Instr) (s : State) : ∃ r, exec i s = finish s r ∧ Run.Keeps Sound s r := by
  cases i with
  | nop => exact ⟨_, rfl, .ok id⟩
  | clear => exact ⟨_, rfl, .require clearBody_keeps_sound⟩
  | lutgen => exact ⟨forUpTo Config.lutSize (lutgenEntry s.amount) s, rfl, lutgen_keeps_sound s⟩
  | contrast => exact ⟨_, rfl, .require fun _ => contrastBody_keeps_sound s⟩
  | encode => exact ⟨_, rfl, .require fun _ => encodeBody_keeps_sound s⟩
  | render => exact ⟨_, rfl, .require renderBody_keeps_sound⟩
  | encpix => exact ⟨_, rfl, .require fun _ => .require fun _ => encpixBody_keeps_sound _ _ _ s⟩
  | luma => exact ⟨_, rfl, .ok (sound_writeRes0 _)⟩
  | curve => exact ⟨_, rfl, .bind_read fun w _ => .ok (sound_writeRes0 w)⟩
  | decide => exact ⟨_, rfl, .ok (sound_writeRes0 _)⟩
  | lumaxy => exact ⟨_, rfl, .require fun _ => .require fun _ => .bind_read fun _ _ => .ok (sound_writeRes0 _)⟩
  | glyphEnc => exact ⟨_, rfl, .ok (sound_writeRes0 _)⟩
  | glyphCell => exact ⟨_, rfl, .require fun _ => .require fun _ => .bind_read fun _ _ => .ok (sound_writeRes10 _ _)⟩
  | glyphDec => exact ⟨_, rfl, .ok (sound_writeRes10 _ _)⟩
  | setglyph =>
    exact ⟨_, rfl, .require fun hgeom => .require fun hi => setglyph_keeps_sound hgeom (of_decide_eq_true hi) _ _ _⟩
  | unpack => exact ⟨_, rfl, .require fun hgeom => .require fun _ => .of_soundGrid hgeom (unpackCell_keeps_soundGrid _ _ s)⟩
  | unpackall =>
    exact ⟨_, rfl, .require fun hgeom => .of_soundGrid hgeom (.forUpTo fun i t _ => unpackCell_keeps_soundGrid _ i t)⟩
  | gridPix => exact ⟨_, rfl, .require fun _ => .ok (sound_writeRes3210 _ _ _ _)⟩
  | gridCell => exact ⟨_, rfl, .require fun _ => .ok (sound_writeRes3210 _ _ _ _)⟩

theorem exec_keeps_sound {i : Instr} {s t : State} (hs : Sound s) (h : exec i s = .next t) : Sound t := by
  obtain ⟨r, hr, keeps⟩ := exec_eq_finish_sound i s
  rcases finish_eq_next.1 (hr ▸ h) with ⟨u, hu, rfl⟩ | ⟨c, _, rfl⟩
  · exact sound_complete (keeps hs u hu)
  · exact sound_complete (sound_raiseError c hs)

theorem runCommand_keeps_sound {w : Word} {s t : State} (hs : Sound s) (h : runCommand w s = .next t) : Sound t := by
  rcases runCommand_cases w s with ⟨i, _, hi⟩ | ⟨_, _, he⟩
  · exact exec_keeps_sound hs (hi ▸ h)
  · cases he.symm.trans h
    exact sound_complete (sound_raiseError .illegal hs)

/-! ### Host accesses -/

theorem sound_writeReg (r : Reg) (v : Word) {s : State} (h : Sound s) : Sound (writeReg r v s) := by
  cases r with
  | status => exact sound_acknowledge v h
  | _ => exact { h with }

/-- A host write lands in a register, or in a window word inside its memory, or is reported (R60, R63, R64). -/
theorem sound_hostWrite (off : Offset) (v : Word) {s : State} (h : Sound s) : Sound (hostWrite off v s) := by
  obtain ⟨lutInside, maskInside, pixInside⟩ := @busTarget_inside off s
  unfold hostWrite
  cases target : busTarget off s with
  | reg r => exact sound_writeReg r v h
  | lut c => exact sound_lutWrite _ h (lutInside c target)
  | mask i => exact sound_maskWrite _ h (maskInside i target)
  | pix p => exact sound_pixWrite v h (pixInside p target)
  | misaligned => exact sound_raiseError .bus h
  | unmapped => exact sound_raiseError .bus h

theorem hostAccess_keeps_sound {a : Access} {s t : State} (hs : Sound s) (h : hostAccess a s = .next t) : Sound t := by
  cases a with
  | read off =>
    obtain ⟨x, rfl | rfl⟩ := hostRead_eq_next h
    · exact sound_reply x hs
    · exact sound_reply x (sound_raiseError .bus hs)
  | write off v =>
    obtain rfl : hostWrite off v s = t := by injection h
    exact sound_hostWrite off v hs

end Sys2Proof.Machine
end

section
/-! The invariant of 20_memory. -/

namespace Sys2Proof.Proofs

open Sys2Proof Sys2Proof.Machine

/-- Settles O13, over the cases of a step. -/
theorem stepKeepsSound : Obligations.StepKeepsSound := by
  intro s t hs h
  have answered {u : State} (hu : Sound u) (hstep : step s = .next u) : Sound t := by
    cases hstep.symm.trans h
    exact hu
  rcases step_cases s with ⟨_, _, hstep⟩ | ⟨rest, _, _, hstep⟩ | ⟨rest, _, hstep⟩ | ⟨rest, _, hstep⟩ |
    ⟨a, rest, _, _, hstep⟩ | ⟨w, rest, _, _, hstep⟩ | ⟨w, _, _, hstep⟩
  · exact answered hs hstep
  · exact answered (sound_setInbox rest hs) hstep
  · exact answered (sound_reply _ (sound_setInbox rest hs)) hstep
  · exact answered (sound_afterReset hs.depthsInBounds rest s.replies) hstep
  · exact hostAccess_keeps_sound (sound_setInbox rest hs) (hstep ▸ h)
  · exact runCommand_keeps_sound (sound_setInbox rest hs) (hstep ▸ h)
  · exact runCommand_keeps_sound hs (hstep ▸ h)

end Sys2Proof.Proofs
end

section
/-! What an offset names (20_memory.md R60), one equation per region, and what a host access of the idle block does at each
kind of target. -/

namespace Sys2Proof.Machine

/-! ### The offset map (R60) -/

theorem regOffset_le (r : Reg) : regOffset r ≤ 0x48 := by cases r <;> decide

/-- Beyond the last register the register page names nothing. -/
theorem regAt_eq_none {o : Nat} (h : 0x48 < o) : regAt o = none := by
  cases hr : regAt o with
  | none => rfl
  | some r =>
    have last := regOffset_le r
    have here := regAt_eq_some hr
    omega

/-- An offset that names a register is that register's offset. -/
theorem busTarget_eq_reg {off : Offset} {s : State} {r : Reg} (h : busTarget off s = .reg r) : off.toNat = regOffset r := by
  simp only [busTarget] at h
  split_ifs at h
  split at h
  next hr => exact regAt_eq_some (BusTarget.reg.inj h ▸ hr)
  next => cases h

/-- The map depends on the two depths alone. -/
theorem busTarget_congr (off : Offset) {s t : State} (h : t.maskDepth = s.maskDepth ∧ t.pixDepth = s.pixDepth) :
    busTarget off t = busTarget off s := by
  simp only [busTarget, h.1, h.2]

@[simp] theorem busTarget_setInbox (off : Offset) (events : List Event) (s : State) :
    busTarget off (setInbox events s) = busTarget off s := rfl

theorem busTarget_misaligned {off : Offset} (h : off.toNat % 4 ≠ 0) (s : State) : busTarget off s = .misaligned := by
  simp only [busTarget, if_pos h]

/-- The aligned offsets of no register and no window word. -/
theorem busTarget_unmapped {off : Offset} {s : State} (aligned : off.toNat % 4 = 0)
    (h : (0x04C ≤ off.toNat ∧ off.toNat ≤ 0xFFC) ∨ (0x1400 ≤ off.toNat ∧ off.toNat ≤ 0xFFFFC) ∨
      (0x100000 + 4 * s.maskDepth ≤ off.toNat ∧ off.toNat ≤ 0x1FFFFC) ∨
      (0x200000 ≤ off.toNat ∧ off.toNat ≤ 0xFFFFFC) ∨ 0x1000000 + 4 * s.pixDepth ≤ off.toNat) :
    busTarget off s = .unmapped := by
  have noReg (_ : off.toNat < 0x1000) : regAt off.toNat = none := regAt_eq_none (by omega)
  simp only [busTarget]
  split_ifs with misaligned inPage
  case pos => omega
  case pos => rw [noReg inPage]
  -- every other branch answers `unmapped` or is outside the ranges of `h`
  all_goals first | rfl | omega

/-- A number that fits a word is the word's value. -/
theorem toNat_ofNat_of_lt {w n : Nat} (h : n < 2 ^ w) : (BitVec.ofNat w n).toNat = n := by
  rw [BitVec.toNat_ofNat, Nat.mod_eq_of_lt h]

theorem busTarget_lut {c : Nat} (hc : c ≤ 255) (s : State) : busTarget (BitVec.ofNat 25 (0x1000 + 4 * c)) s = .lut c := by
  have index : (0x1000 + 4 * c - 0x1000) / 4 = c := by omega
  simp only [busTarget, toNat_ofNat_of_lt (show 0x1000 + 4 * c < 2 ^ 25 by omega), index]
  rw [if_neg (by omega), if_neg (by omega), if_pos (by omega)]

theorem depthsWellFormed_iff {m p : Nat} :
    depthsWellFormed m p = true ↔ (1 ≤ m ∧ m ≤ 2 ^ 18) ∧ (1 ≤ p ∧ p ≤ 2 ^ 22) := by
  simp only [depthsWellFormed, Bool.and_eq_true, decide_eq_true_eq]
  rfl

theorem busTarget_mask {s : State} {i : Nat} (hd : depthsWellFormed s.maskDepth s.pixDepth = true) (hi : i < s.maskDepth) :
    busTarget (BitVec.ofNat 25 (0x100000 + 4 * i)) s = .mask i := by
  have bounds := depthsWellFormed_iff.1 hd
  have index : (0x100000 + 4 * i - 0x100000) / 4 = i := by omega
  simp only [busTarget, toNat_ofNat_of_lt (show 0x100000 + 4 * i < 2 ^ 25 by omega), index]
  rw [if_neg (by omega), if_neg (by omega), if_neg (by omega), if_neg (by omega), if_pos (by omega), if_pos hi]

theorem busTarget_pix {s : State} {p : Nat} (hd : depthsWellFormed s.maskDepth s.pixDepth = true) (hp : p < s.pixDepth) :
    busTarget (BitVec.ofNat 25 (0x1000000 + 4 * p)) s = .pix p := by
  have bounds := depthsWellFormed_iff.1 hd
  have index : (0x1000000 + 4 * p - 0x1000000) / 4 = p := by omega
  simp only [busTarget, toNat_ofNat_of_lt (show 0x1000000 + 4 * p < 2 ^ 25 by omega), index]
  rw [if_neg (by omega), if_neg (by omega), if_neg (by omega), if_neg (by omega), if_neg (by omega), if_neg (by omega), if_pos hp]

/-! ### An access by the kind of its target -/

section
variable {s : State} {off : Offset}

theorem hostRead_reg {r : Reg} (h : busTarget off s = .reg r) : hostRead off s = .next (reply (readReg r s) s) := by
  simp only [hostRead, h]

theorem hostRead_lut {c : Nat} (h : busTarget off s = .lut c) :
    hostRead off s = replyEntry (Memory.read s.lut c) (.unwrittenLut c) s := by simp only [hostRead, h]

theorem hostRead_mask {i : Nat} (h : busTarget off s = .mask i) :
    hostRead off s = replyEntry (Memory.read s.mask i) (.unwrittenMask i) s := by simp only [hostRead, h]

theorem hostRead_pix {p : Nat} (h : busTarget off s = .pix p) :
    hostRead off s = replyEntry (Memory.read s.pix p) (.unwrittenPix p) s := by simp only [hostRead, h]

theorem hostRead_busError (h : busTarget off s = .misaligned ∨ busTarget off s = .unmapped) :
    hostRead off s = .next (reply 0#32 (busError s)) := by
  rcases h with h | h <;> simp only [hostRead, h]

theorem hostWrite_reg {r : Reg} (v : Word) (h : busTarget off s = .reg r) : hostWrite off v s = writeReg r v s := by
  simp only [hostWrite, h]

theorem hostWrite_lut {c : Nat} (v : Word) (h : busTarget off s = .lut c) :
    hostWrite off v s = lutWrite c (v.extractLsb' 0 8) s := by simp only [hostWrite, h]

theorem hostWrite_mask {i : Nat} (v : Word) (h : busTarget off s = .mask i) :
    hostWrite off v s = maskWrite i (v.extractLsb' 0 8) s := by simp only [hostWrite, h]

theorem hostWrite_pix {p : Nat} (v : Word) (h : busTarget off s = .pix p) : hostWrite off v s = pixWrite p v s := by
  simp only [hostWrite, h]

theorem hostWrite_busError (v : Word) (h : busTarget off s = .misaligned ∨ busTarget off s = .unmapped) :
    hostWrite off v s = busError s := by
  rcases h with h | h <;> simp only [hostWrite, h]

/-- A read at a mapped offset leaves the block as it is (R71). -/
theorem hostRead_mapped_eq_next {t : State} (aligned : busTarget off s ≠ .misaligned) (mapped : busTarget off s ≠ .unmapped)
    (h : hostRead off s = .next t) : ∃ x, t = reply x s := by
  have entry {w : Nat} {m : Option (BitVec w)} {f : Fault} (h : replyEntry m f s = .next t) : ∃ x, t = reply x s := by
    cases m with
    | none => cases h
    | some v => cases h; exact ⟨_, rfl⟩
  cases target : busTarget off s with
  | reg r =>
    cases (hostRead_reg target).symm.trans h
    exact ⟨_, rfl⟩
  | lut c => exact entry (hostRead_lut target ▸ h)
  | mask i => exact entry (hostRead_mask target ▸ h)
  | pix p => exact entry (hostRead_pix target ▸ h)
  | misaligned => exact absurd target aligned
  | unmapped => exact absurd target mapped

/-! ### Writes twice (R71) -/

theorem acknowledge_acknowledge (v : Word) (s : State) : acknowledge v (acknowledge v s) = acknowledge v s := by
  simp only [acknowledge, Bool.and_assoc, Bool.and_self]
  split <;> rfl

theorem writeReg_writeReg (r : Reg) (v : Word) (s : State) : writeReg r v (writeReg r v s) = writeReg r v s := by
  cases r with
  | status => exact acknowledge_acknowledge v s
  | _ => rfl

/-- A second bus error finds `ERR` set and keeps the first one's code (R223). -/
theorem busError_busError (s : State) : busError (busError s) = busError s := rfl

theorem hostWrite_hostWrite (off : Offset) (v : Word) (s : State) :
    hostWrite off v (hostWrite off v s) = hostWrite off v s := by
  have again : busTarget off (hostWrite off v s) = busTarget off s :=
    busTarget_congr off (hostAccess_keeps_depths (a := .write off v) rfl)
  cases target : busTarget off s with
  | reg r => rw [hostWrite_reg v (again.trans target), hostWrite_reg v target, writeReg_writeReg]
  | lut c =>
    rw [hostWrite_lut v (again.trans target), hostWrite_lut v target]
    simp only [lutWrite, Memory.write_write]
  | mask i =>
    rw [hostWrite_mask v (again.trans target), hostWrite_mask v target]
    simp only [maskWrite, Memory.write_write]
  | pix p =>
    rw [hostWrite_pix v (again.trans target), hostWrite_pix v target]
    simp only [pixWrite, Memory.write_write]
  | misaligned =>
    rw [hostWrite_busError v (.inl (again.trans target)), hostWrite_busError v (.inl target), busError_busError]
  | unmapped =>
    rw [hostWrite_busError v (.inr (again.trans target)), hostWrite_busError v (.inr target), busError_busError]

/-- A host write but one to `CMD` starts no command (R30). -/
theorem hostWrite_inFlight (v : Word) (h : busTarget off s ≠ .reg .cmd) : (hostWrite off v s).inFlight = s.inFlight := by
  unfold hostWrite
  cases target : busTarget off s with
  | reg r => exact writeReg_inFlight (fun hr => h (hr ▸ target)) v s
  | _ => rfl

end

/-! ### Steps of the idle block -/

section
variable {s : State} {off : Offset} {v : Word} {rest : List Event}

/-- A host write does not depend on the events still to come. -/
theorem hostWrite_setInbox (off : Offset) (v : Word) (events : List Event) (s : State) :
    hostWrite off v (setInbox events s) = setInbox events (hostWrite off v s) := by
  unfold hostWrite
  rw [busTarget_setInbox]
  cases busTarget off s with
  | reg r => exact writeReg_setInbox r v events s
  | _ => rfl

theorem step_host_write (hidle : s.inFlight = none) (hbox : s.inbox = .host (.write off v) :: rest) :
    step s = .next (setInbox rest (hostWrite off v s)) := by
  rw [step_idle_host hidle hbox, hostAccess, hostWrite_setInbox]

/-- The same, where the write has just been placed before `rest`. -/
theorem step_setInbox_write (off : Offset) (v : Word) (rest : List Event) (hidle : s.inFlight = none) :
    step (setInbox (.host (.write off v) :: rest) s) = .next (setInbox rest (hostWrite off v s)) := by
  rw [step_host_write (s := setInbox (.host (.write off v) :: rest) s) hidle rfl, hostWrite_setInbox]
  rfl

theorem step_host_read (hidle : s.inFlight = none) (hbox : s.inbox = .host (.read off) :: rest) :
    step s = hostRead off (setInbox rest s) := step_idle_host hidle hbox

/-- A bus error at the idle block: `ERR`, the first error's code, and 0 to a read (R63, R64, R222). -/
theorem step_busError (h : busTarget off s = .misaligned ∨ busTarget off s = .unmapped) (hidle : s.inFlight = none) :
    (s.inbox = .host (.read off) :: rest →
      step s = .next { s with errcode := if s.err = true then s.errcode else 4#4, err := true, inbox := rest,
                              replies := s.replies ++ [0#32] }) ∧
    (s.inbox = .host (.write off v) :: rest →
      step s = .next { s with errcode := if s.err = true then s.errcode else 4#4, err := true, inbox := rest }) := by
  refine ⟨fun hbox => ?_, fun hbox => ?_⟩
  · rw [step_host_read hidle hbox, hostRead_busError (busTarget_setInbox off rest s ▸ h)]
    rfl
  · rw [step_host_write hidle hbox, hostWrite_busError v h]
    rfl

end

/-! ### The span (R60) -/

theorem zeroExtend_offset (off : Offset) : off.zeroExtend 32 = 0#7 ++ off := by
  apply BitVec.eq_of_toNat_eq
  have wide : off.toNat < 2 ^ 32 := Nat.lt_trans off.isLt (by decide)
  rw [BitVec.zeroExtend_eq_setWidth, BitVec.toNat_setWidth, Nat.mod_eq_of_lt wide, BitVec.toNat_append]
  simp

/-- A bus address is the span's top bits over the offset. -/
theorem busAddress_eq_append (off : Offset) : busAddress off = Config.baseTop ++ off := by
  rw [busAddress, zeroExtend_offset]
  exact BitVec.append_zero_add_zero_append

theorem presentedOffset_busAddress (off : Offset) : presentedOffset (busAddress off) = some off := by
  rw [busAddress_eq_append, presentedOffset, inSpan, BitVec.extractLsb'_append_eq_left,
    BitVec.extractLsb'_append_eq_right, beq_self_eq_true, if_pos rfl]

/-- Only the block's own addresses are presented to it. -/
theorem eq_busAddress_of_presentedOffset {addr : Word} {off : Offset} (h : presentedOffset addr = some off) :
    addr = busAddress off := by
  unfold presentedOffset inSpan at h
  split at h
  next top =>
    rw [busAddress_eq_append, ← eq_of_beq top, ← Option.some.inj h]
    exact (BitVec.extractLsb'_append_extractLsb' (w := 7) (len := 25)).symm
  next => cases h

/-- A line whose offset is in the span has the bus address of that offset, and any other has none of the span's. -/
theorem presented_eq_presentedOffset {loc : Loc} (h : loc.offset < 2 ^ 32) : loc.presented = presentedOffset loc.address := by
  have address_iff (off : Offset) : loc.address = busAddress off ↔ loc.offset = off.toNat := by
    have wide : off.toNat < 2 ^ 32 := Nat.lt_trans off.isLt (by decide)
    rw [Loc.address, busAddress, BitVec.add_right_inj, ← BitVec.toNat_inj, BitVec.toNat_ofNat, Nat.mod_eq_of_lt h,
      BitVec.zeroExtend_eq_setWidth, BitVec.toNat_setWidth, Nat.mod_eq_of_lt wide]
  refine Option.ext fun off => ?_
  rw [presented_eq_some, ← address_iff]
  exact ⟨fun ha => ha ▸ presentedOffset_busAddress off, eq_busAddress_of_presentedOffset⟩

end Sys2Proof.Machine
end

section
/-! The statements of 20_memory about the bus. -/

namespace Sys2Proof.Proofs

open Sys2Proof Sys2Proof.Machine

/-- Settles O20: such an offset is unmapped, and an access there is a bus error. -/
theorem unmappedAccessIsBusError : Obligations.UnmappedAccessIsBusError := fun _ _ _ _ hidle aligned hrange =>
  step_busError (.inr (busTarget_unmapped aligned hrange)) hidle

/-- Settles O19. -/
theorem misalignedAccessIsBusError : Obligations.MisalignedAccessIsBusError := fun s _ _ _ hidle hoff =>
  step_busError (.inl (busTarget_misaligned hoff s)) hidle

/-- Settles O21, by the laws of the LUT as a memory. -/
theorem lutWindowReadsAndWrites : Obligations.LutWindowReadsAndWrites := by
  intro s c v rest hidle hc
  refine ⟨fun hbox => ⟨Memory.write s.lut c (v.extractLsb' 0 8), ?_, ?_⟩, fun b hbox hb => ?_⟩
  · rw [step_host_write hidle hbox, hostWrite_lut v (busTarget_lut hc s)]
    rfl
  · exact fun k => Memory.read_write s.lut c k _
  · rw [step_host_read hidle hbox, hostRead_lut (busTarget_lut hc _), setInbox_lut, hb]
    rfl

/-- Settles O22, by the laws of the dot-mask RAM as a memory. -/
theorem maskWindowReadsAndWrites : Obligations.MaskWindowReadsAndWrites := by
  intro s i v rest hidle hd hi
  refine ⟨fun hbox => ⟨Memory.write s.mask i (v.extractLsb' 0 8), ?_, ?_⟩, fun b hbox hb => ?_⟩
  · rw [step_host_write hidle hbox, hostWrite_mask v (busTarget_mask hd hi)]
    rfl
  · exact fun k => Memory.read_write s.mask i k _
  · rw [step_host_read hidle hbox, hostRead_mask (busTarget_mask (s := setInbox rest s) hd hi), setInbox_mask, hb]
    rfl

/-- Settles O23, by the laws of the pixel RAM as a memory. -/
theorem pixelWindowReadsAndWrites : Obligations.PixelWindowReadsAndWrites := by
  intro s p v rest hidle hd hp
  refine ⟨fun hbox => ⟨Memory.write s.pix p v, ?_, ?_⟩, fun w hbox hw => ?_⟩
  · rw [step_host_write hidle hbox, hostWrite_pix v (busTarget_pix hd hp)]
    rfl
  · exact fun k => Memory.read_write s.pix p k v
  · rw [step_host_read hidle hbox, hostRead_pix (busTarget_pix (s := setInbox rest s) hd hp), setInbox_pix, hw, replyEntry,
      BitVec.zeroExtend_eq_setWidth, BitVec.setWidth_eq]
    rfl

/-- Settles O24: each window names its own memory, whose unwritten entry is the fault. -/
theorem unwrittenWindowReadFaults : Obligations.UnwrittenWindowReadFaults := by
  intro s k rest hidle hd
  refine ⟨fun hk hread hbox => ?_, fun hk hread hbox => ?_, fun hk hread hbox => ?_⟩
  · rw [step_host_read hidle hbox, hostRead_lut (busTarget_lut hk _), setInbox_lut, hread]
    rfl
  · rw [step_host_read hidle hbox, hostRead_mask (busTarget_mask (s := setInbox rest s) hd hk), setInbox_mask, hread]
    rfl
  · rw [step_host_read hidle hbox, hostRead_pix (busTarget_pix (s := setInbox rest s) hd hk), setInbox_pix, hread]
    rfl

/-- Settles O25: a mapped read only answers, and a write done twice is done once. -/
theorem hostAccessEffects : Obligations.HostAccessEffects := by
  intro s off v rest hidle
  refine ⟨fun t hbox aligned mapped hstep => ?_, fun hoff => ?_⟩
  · rw [step_host_read hidle hbox] at hstep
    exact hostRead_mapped_eq_next (s := setInbox rest s) aligned mapped hstep
  · have notCmd : busTarget off s ≠ .reg .cmd := fun h => hoff (BitVec.eq_of_toNat_eq (busTarget_eq_reg h))
    have stillIdle : (hostWrite off v s).inFlight = none := (hostWrite_inFlight v notCmd).trans hidle
    have once := step_setInbox_write off v rest hidle
    have twice := step_setInbox_write off v rest stillIdle
    rw [hostWrite_hostWrite] at twice
    exact (run_succ_of_next 1 (step_setInbox_write off v _ hidle)).trans
      ((run_one _).trans (twice.trans (once.symm.trans (run_one _).symm)))

/-- Settles O15: a bus address is the span's top bits over the offset. -/
theorem spanDecodesToOffsets : Obligations.SpanDecodesToOffsets :=
  ⟨presentedOffset_busAddress, fun _ _ => eq_busAddress_of_presentedOffset, fun _ => presented_eq_presentedOffset⟩

end Sys2Proof.Proofs
end

section
/-! The grid-index calculators (43_container.md R190, R191) on the covered area. -/

namespace Sys2Proof.Machine

/-! ### The results, and the geometry beside them -/

section
variable (s : State) (x y a b i : Nat)

@[simp] theorem gridPixResults_res0 : (gridPixResults a b s).res0 = BitVec.ofNat 32 (a / 2) := rfl

@[simp] theorem gridPixResults_res1 : (gridPixResults a b s).res1 = BitVec.ofNat 32 (b / 4) := rfl

@[simp] theorem gridPixResults_res2 : (gridPixResults a b s).res2 = BitVec.ofNat 32 (s.cellIndex a b) := rfl

@[simp] theorem gridPixResults_covered : (gridPixResults a b s).covered x y = s.covered x y := rfl

@[simp] theorem gridPixResults_cellIndex : (gridPixResults a b s).cellIndex x y = s.cellIndex x y := rfl

@[simp] theorem gridPixResults_cellCount : (gridPixResults a b s).cellCount = s.cellCount := rfl

@[simp] theorem gridPixResults_width : (gridPixResults a b s).width = s.width := rfl

@[simp] theorem gridCellResults_res0 : (gridCellResults i a b s).res0 = BitVec.ofNat 32 a := rfl

@[simp] theorem gridCellResults_res1 : (gridCellResults i a b s).res1 = BitVec.ofNat 32 b := rfl

@[simp] theorem gridCellResults_res2 : (gridCellResults i a b s).res2 = BitVec.ofNat 32 (4 * b * s.width + 2 * a) := rfl

theorem width_withArg0 (v : Word) : State.width { s with arg0 := v } = s.width := rfl

theorem cols_withArg0 (v : Word) : State.cols { s with arg0 := v } = s.cols := rfl

theorem cellCount_withArg0 (v : Word) : State.cellCount { s with arg0 := v } = s.cellCount := rfl

theorem arg0Index_withArg0 (v : Word) : State.arg0Index { s with arg0 := v } = v.toNat := rfl

end

/-! ### What the two calculators answer -/

theorem exec_gridPix_of_width {s : State} {x y : Nat} (h : s.width ≠ 0) (hx : x = s.arg0Index % s.width)
    (hy : y = s.arg0Index / s.width) : exec .gridPix s = .next (complete (gridPixResults x y s)) := by
  have guard : Run.require (decide (s.width ≠ 0)) .cfg = .ok () := by rw [decide_eq_true h, Run.require_true]
  rw [exec, execGridPix, guard, Run.bind_ok, finish_ok, hx, hy]

theorem exec_gridCell_of_cols {s : State} (h : s.cols ≠ 0) :
    exec .gridCell s = .next (complete (gridCellResults s.arg0Index (s.arg0Index % s.cols) (s.arg0Index / s.cols) s)) := by
  have guard : Run.require (decide (s.cols ≠ 0)) .cfg = .ok () := by rw [decide_eq_true h, Run.require_true]
  rw [exec, execGridCell, guard, Run.bind_ok, finish_ok]

/-! ### Covered pixels (R143, R144) -/

theorem covered_iff {s : State} {x y : Nat} :
    s.covered x y = true ↔ (x < s.width ∧ x < 2 * s.cols) ∧ y < s.height ∧ y < 4 * s.rows := by
  simp [State.covered, State.coveredW, State.coveredH, Config.dotsPerCellX, Config.dotsPerCellY]

/-- The cell of a covered pixel: its index is in the grid, and its column and row are the index's remainder and quotient by
`CELL_COLS` (R144). -/
theorem cellIndex_of_covered {s : State} {x y : Nat} (h : s.covered x y = true) :
    s.cellIndex x y < s.cellCount ∧ s.cellIndex x y % s.cols = x / 2 ∧ s.cellIndex x y / s.cols = y / 4 := by
  obtain ⟨⟨_, hx⟩, _, hy⟩ := covered_iff.1 h
  have col : x / 2 < s.cols := by omega
  have row : y / 4 < s.rows := by omega
  have index : s.cellIndex x y = x / 2 + s.cols * (y / 4) := by
    rw [Nat.add_comm, Nat.mul_comm]
    rfl
  refine ⟨?_, ?_, ?_⟩
  · calc s.cellIndex x y = x / 2 + s.cols * (y / 4) := index
      _ < s.cols + s.cols * (y / 4) := Nat.add_lt_add_right col _
      _ = s.cols * (y / 4 + 1) := by rw [Nat.mul_succ, Nat.add_comm]
      _ ≤ s.cols * s.rows := Nat.mul_le_mul_left _ row
  · rw [index, Nat.add_mul_mod_self_left, Nat.mod_eq_of_lt col]
  · rw [index, Nat.add_mul_div_left _ _ (Nat.zero_lt_of_lt col), Nat.div_eq_of_lt col, Nat.zero_add]

/-- `GRID_CELL` of the cell of a covered pixel answers that pixel's cell column and row. -/
theorem exec_gridCell_of_covered {s : State} {v : Word} {x y : Nat} (h : s.covered x y = true) (hv : v.toNat = s.cellIndex x y) :
    exec .gridCell { s with arg0 := v } =
      .next (complete (gridCellResults (s.cellIndex x y) (x / 2) (y / 4) { s with arg0 := v })) := by
  obtain ⟨⟨_, hx⟩, _⟩ := covered_iff.1 h
  obtain ⟨_, column, row⟩ := cellIndex_of_covered h
  have cols : s.cols ≠ 0 := by omega
  rw [exec_gridCell_of_cols (s := { s with arg0 := v }) cols, arg0Index_withArg0, cols_withArg0, hv, column, row]

/-! ### The result registers of a covered pixel -/

/-- The cell count fits the 32 bits of a result register. -/
theorem cellCount_lt (s : State) : s.cellCount < 2 ^ 32 :=
  calc s.cols * s.rows < 2 ^ 16 * 2 ^ 16 := Nat.mul_lt_mul'' s.cellCols.isLt s.cellRows.isLt
    _ = 2 ^ 32 := rfl

/-- The flag `NOT_COVERED` of `GRID_PIX` is clear at a covered pixel, and the mask bit beside it does not reach it (R190). -/
theorem gridPix_notCovered_clear {s : State} {x y : Nat} (h : s.covered x y = true) :
    (gridPixResults x y s).res3.getLsbD 31 = false := by
  have small : bitIdx x y < 2 ^ 31 := by unfold bitIdx; omega
  have fits : bitIdx x y < 2 ^ 32 := by omega
  have res3 : (gridPixResults x y s).res3 = BitVec.ofNat 32 (bitIdx x y) := by
    simp [gridPixResults, notCovered, h]
  rw [res3, BitVec.getLsbD, toNat_ofNat_of_lt fits, Nat.testBit_lt_two_pow small]

/-- The flag `NOT_COVERED` of `GRID_CELL` is clear at a cell of the grid (R191). -/
theorem gridCell_notCovered_clear {s : State} {i col row : Nat} (h : i < s.cellCount) :
    (gridCellResults i col row s).res3 = 0#32 := by
  rw [gridCellResults, writeRes3_res3, decide_eq_true h, notCovered, if_pos rfl]

/-- A pixel's flat address is its cell's top-left address plus its position in the cell's 2×4 block (R66, R191). -/
theorem pixelIndex_eq_topLeft_add (s : State) (x y : Nat) :
    s.pixelIndex x y = 4 * (y / 4) * s.width + 2 * (x / 2) + y % 4 * s.width + x % 2 := by
  have rows : y * s.width = 4 * (y / 4) * s.width + y % 4 * s.width := by rw [← Nat.add_mul, Nat.div_add_mod]
  have flat : s.pixelIndex x y = y * s.width + x := rfl
  omega

end Sys2Proof.Machine
end

section
/-! The statement of 20_memory about flat pixel addresses. -/

namespace Sys2Proof.Proofs

open Sys2Proof Sys2Proof.Machine

/-- Settles O60: the cell index that `GRID_PIX` answers is divided by `CELL_COLS` into the column and row it came from. -/
theorem gridCalculatorsAgree : Obligations.GridCalculatorsAgree := by
  intro s covered
  obtain ⟨x, hx⟩ : ∃ x, x = s.arg0.toNat % s.width := ⟨_, rfl⟩
  obtain ⟨y, hy⟩ : ∃ y, y = s.arg0.toNat / s.width := ⟨_, rfl⟩
  rw [← hx, ← hy] at covered ⊢
  obtain ⟨⟨xInside, _⟩, _⟩ := covered_iff.1 covered
  obtain ⟨inGrid, _⟩ := cellIndex_of_covered covered
  have named : (BitVec.ofNat 32 (s.cellIndex x y)).toNat = s.cellIndex x y :=
    toNat_ofNat_of_lt (Nat.lt_trans inGrid (cellCount_lt s))
  have address : s.arg0.toNat = 4 * (y / 4) * s.width + 2 * (x / 2) + y % 4 * s.width + x % 2 := by
    rw [← pixelIndex_eq_topLeft_add, State.pixelIndex, hx, hy, Nat.mul_comm, Nat.div_add_mod]
  have topLeft : (BitVec.ofNat 32 (4 * (y / 4) * s.width + 2 * (x / 2))).toNat = 4 * (y / 4) * s.width + 2 * (x / 2) :=
    toNat_ofNat_of_lt (by have := s.arg0.isLt; omega)
  have pix := exec_gridPix_of_width (Nat.ne_zero_of_lt xInside) hx hy
  have cell := exec_gridCell_of_covered (s := complete (gridPixResults x y s)) (v := (gridPixResults x y s).res2)
    (by rw [complete_covered, gridPixResults_covered, covered])
    (by rw [gridPixResults_res2, complete_cellIndex, gridPixResults_cellIndex, named])
  refine ⟨_, _, pix, cell, ?_, ?_, ?_, ?_, ?_⟩
  · rw [complete_res3, gridPix_notCovered_clear covered]
  · rw [complete_res3, complete_cellIndex, gridPixResults_cellIndex]
    exact gridCell_notCovered_clear (by rwa [cellCount_withArg0, complete_cellCount, gridPixResults_cellCount])
  · simp only [complete_res0, gridCellResults_res0, gridPixResults_res0]
  · simp only [complete_res1, gridCellResults_res1, gridPixResults_res1]
  · rw [complete_res2, gridCellResults_res2, width_withArg0, complete_width, gridPixResults_width, topLeft]
    exact address

end Sys2Proof.Proofs
end

section
/-! The opcode map (30_encoding.md R93) as a relation between opcodes and commands, and the words that decode (R91, R94). -/

namespace Sys2Proof

/-! ### The opcode map -/

/-- In a map that names no opcode twice, looking an opcode up finds exactly its rows. -/
theorem lookupOpcode_eq_some_iff {rows : List (Byte × Instr)} (distinct : (rows.map Prod.fst).Nodup) {opc : Byte} {i : Instr} :
    lookupOpcode opc rows = some i ↔ (opc, i) ∈ rows := by
  induction rows with
  | nil => simp [lookupOpcode]
  | cons row rows ih =>
    obtain ⟨o, j⟩ := row
    obtain ⟨fresh, distinct⟩ := List.nodup_cons.1 distinct
    by_cases here : o = opc
    · subst here
      have notBelow : (o, i) ∉ rows := fun h => fresh (List.mem_map.2 ⟨(o, i), h, rfl⟩)
      simp [lookupOpcode, notBelow, @eq_comm _ i]
    · simp [lookupOpcode, here, ih distinct, Ne.symm here]

theorem opcodeMap_distinct : (opcodeMap.map Prod.fst).Nodup := by decide

/-- Each row's opcode, with `RSV` = 0 above it, is the word of the row's command. -/
theorem encode_of_mem_opcodeMap : ∀ row ∈ opcodeMap, 0#24 ++ row.1 = encode row.2 := by decide

/-- The per-command law, for every command. -/
theorem encodesWellFormed : ∀ i : Instr, Laws.EncodesWellFormed.Statement i
  | .nop => Laws.EncodesWellFormed.nop
  | .clear => Laws.EncodesWellFormed.clear
  | .lutgen => Laws.EncodesWellFormed.lutgen
  | .contrast => Laws.EncodesWellFormed.contrast
  | .encode => Laws.EncodesWellFormed.encode
  | .render => Laws.EncodesWellFormed.render
  | .encpix => Laws.EncodesWellFormed.encpix
  | .luma => Laws.EncodesWellFormed.luma
  | .curve => Laws.EncodesWellFormed.curve
  | .decide => Laws.EncodesWellFormed.decide
  | .lumaxy => Laws.EncodesWellFormed.lumaxy
  | .glyphEnc => Laws.EncodesWellFormed.glyphEnc
  | .glyphCell => Laws.EncodesWellFormed.glyphCell
  | .glyphDec => Laws.EncodesWellFormed.glyphDec
  | .setglyph => Laws.EncodesWellFormed.setglyph
  | .unpack => Laws.EncodesWellFormed.unpack
  | .unpackall => Laws.EncodesWellFormed.unpackall
  | .gridPix => Laws.EncodesWellFormed.gridPix
  | .gridCell => Laws.EncodesWellFormed.gridCell

/-! ### Decoding -/

theorem decode_eq_ok_iff_mem {w : Word} {i : Instr} :
    decode w = .ok i ↔ w.extractLsb' 8 24 = 0#24 ∧ (w.extractLsb' 0 8, i) ∈ opcodeMap := by
  rw [← lookupOpcode_eq_some_iff opcodeMap_distinct, decode]
  by_cases reserved : w.extractLsb' 8 24 = 0#24
  · cases lookupOpcode (w.extractLsb' 0 8) opcodeMap <;> simp [reserved]
  · simp [reserved]

theorem reservedFieldClear_iff {w : Word} : reservedFieldClear w = true ↔ w.extractLsb' 8 24 = 0#24 := beq_iff_eq

theorem commandWordWellFormed_iff {w : Word} :
    commandWordWellFormed w = true ↔ reservedFieldClear w = true ∧ opcodeAssigned w = true := Bool.and_eq_true_iff

/-- Every command's word decodes to it: its row stands in the map. -/
theorem decode_encode (i : Instr) : decode (encode i) = .ok i := by
  obtain ⟨checks, row⟩ := encodesWellFormed i
  exact decode_eq_ok_iff_mem.2 ⟨reservedFieldClear_iff.1 (commandWordWellFormed_iff.1 checks).1, row⟩

/-- A word is its `RSV` field above its `OPC` field (R90). -/
theorem append_fields (w : Word) : w.extractLsb' 8 24 ++ w.extractLsb' 0 8 = w := by
  ext k hk
  simp only [BitVec.getElem_append, BitVec.getElem_extractLsb']
  split
  next => simp [BitVec.getLsbD_eq_getElem hk]
  next high => simp [show 8 + (k - 8) = k by omega, BitVec.getLsbD_eq_getElem hk]

/-- A word decodes to a command exactly when it is that command's word. -/
theorem decode_eq_ok_iff {w : Word} {i : Instr} : decode w = .ok i ↔ w = encode i := by
  constructor
  · intro h
    obtain ⟨reserved, row⟩ := decode_eq_ok_iff_mem.1 h
    calc w = w.extractLsb' 8 24 ++ w.extractLsb' 0 8 := (append_fields w).symm
      _ = 0#24 ++ w.extractLsb' 0 8 := by rw [reserved]
      _ = encode i := encode_of_mem_opcodeMap _ row
  · rintro rfl
    exact decode_encode i

/-! ### ILLEGAL words (R94) -/

/-- A word that fails a check decodes to an error. -/
theorem decode_error_of_not_wellFormed {w : Word} (h : commandWordWellFormed w = false) : ∃ e, decode w = .error e := by
  cases decoded : decode w with
  | error e => exact ⟨e, rfl⟩
  | ok i =>
    rw [decode_eq_ok_iff.1 decoded, (encodesWellFormed i).1] at h
    cases h

/-- The opcodes the map leaves out are those of R94's ranges. -/
theorem opcodeAssigned_eq_false_iff {w : Word} {o : Nat} (ho : o = (w.extractLsb' 0 8).toNat) :
    opcodeAssigned w = false ↔
      (0x07 ≤ o ∧ o ≤ 0x0F) ∨ (0x14 ≤ o ∧ o ≤ 0x1F) ∨ (0x22 ≤ o ∧ o ≤ 0x27) ∨ (0x2C ≤ o ∧ o ≤ 0x2F) ∨ 0x32 ≤ o := by
  simp only [opcodeAssigned, ← ho, Bool.or_eq_false_iff, Bool.and_eq_false_iff, decide_eq_false_iff_not]
  omega

end Sys2Proof

namespace Sys2Proof.Machine

/-! ### A command in flight -/

/-- With a command in flight, the block runs it when nothing is to come, or when the next access waits (R73). -/
theorem step_busy_waiting {s : State} {w : Word} (hbusy : s.inFlight = some w)
    (hbox : s.inbox = [] ∨ ∃ a rest, s.inbox = .host a :: rest) : step s = runCommand w s := by
  rcases hbox with hbox | ⟨a, rest, hbox⟩ <;> simp only [step, advance, hbusy, busyTurn, hbox]

theorem step_busy_engine {s : State} {w : Word} {rest : List Event} (hbusy : s.inFlight = some w)
    (hbox : s.inbox = .engine :: rest) : step s = runCommand w (setInbox rest s) := by
  simp only [step, advance, hbusy, busyTurn, hbox]

/-- An ILLEGAL word reports and does nothing else (R91). -/
theorem runCommand_of_error {w : Word} {e : DecodeError} (h : decode w = .error e) (s : State) :
    runCommand w s = .next (s.reported 1#4) := by
  simp only [runCommand, h]
  rfl

/-- A command ends with `BUSY` = 0, and leaves the host's events to come as they were (R220). -/
theorem exec_completes {i : Instr} {s t : State} (h : exec i s = .next t) : t.inFlight = none ∧ t.inbox = s.inbox := by
  rcases exec_next_cases h with ⟨u, hu, rfl⟩ | ⟨c, rfl⟩
  · refine ⟨rfl, ?_⟩
    rw [complete_inbox, hu.onlyOutputs]
    rfl
  · exact ⟨rfl, rfl⟩

theorem runCommand_completes {w : Word} {s t : State} (h : runCommand w s = .next t) :
    t.inFlight = none ∧ t.inbox = s.inbox := by
  rcases runCommand_cases w s with ⟨i, _, hi⟩ | ⟨_, _, he⟩
  · exact exec_completes (hi ▸ h)
  · cases he.symm.trans h
    exact ⟨rfl, rfl⟩

/-- The `STATUS` read that ends a `WAITIDLE`: the idle block answers it with `BUSY` = 0. -/
theorem step_idle_status {s : State} {rest : List Event} (hidle : s.inFlight = none)
    (hbox : s.inbox = .host (.read 0x03C#25) :: rest) :
    ∃ x : Word, x.getLsbD 0 = false ∧ step s = .next { s with inbox := rest, replies := s.replies ++ [x] } :=
  ⟨statusWord s, by rw [statusWord_busy, hidle]; rfl, step_read_reg .status rfl hidle hbox⟩

end Sys2Proof.Machine
end

section
/-! What each command may write (30_encoding.md R93, column "Writes"). -/

namespace Sys2Proof.Machine

/-! ### Outputs -/

/-- The memories and result registers that a command can write. -/
inductive Output where
  | lut | mask | pix | res0 | res1 | res2 | res3

/-- The column "Writes" of the opcode map (R93). -/
@[simp] def writesOf : Instr → List Output
  | .nop => []
  | .lutgen => [.lut]
  | .clear | .encode => [.mask]
  | .contrast | .unpack | .unpackall => [.pix]
  | .render => [.mask, .pix]
  | .encpix => [.mask, .res0, .res1, .res2, .res3]
  | .luma | .curve | .decide | .lumaxy | .glyphEnc => [.res0]
  | .glyphCell | .glyphDec => [.res0, .res1]
  | .setglyph => [.mask, .res0, .res1]
  | .gridPix | .gridCell => [.res0, .res1, .res2, .res3]

/-- The output is in `t` as it is in `s`. -/
def Output.Same (s t : State) : Output → Prop
  | .lut => t.lut = s.lut
  | .mask => t.mask = s.mask
  | .pix => t.pix = s.pix
  | .res0 => t.res0 = s.res0
  | .res1 => t.res1 = s.res1
  | .res2 => t.res2 = s.res2
  | .res3 => t.res3 = s.res3

/-- Every output but those listed is in `t` as it is in `s`. -/
def State.WritesOnly (ws : List Output) (s t : State) : Prop := ∀ o, o ∉ ws → o.Same s t

section
variable {ws : List Output} {s t : State}

theorem State.WritesOnly.refl (ws : List Output) (s : State) : s.WritesOnly ws s := fun o _ => by cases o <;> rfl

theorem State.WritesOnly.lutWrite (h : s.WritesOnly ws t) (mem : .lut ∈ ws) (c : Nat) (v : Byte) :
    s.WritesOnly ws (lutWrite c v t) := fun o ho => by
  cases o with
  | lut => exact absurd mem ho
  | _ => exact h _ ho

theorem State.WritesOnly.maskWrite (h : s.WritesOnly ws t) (mem : .mask ∈ ws) (i : Nat) (v : Byte) :
    s.WritesOnly ws (maskWrite i v t) := fun o ho => by
  cases o with
  | mask => exact absurd mem ho
  | _ => exact h _ ho

theorem State.WritesOnly.pixWrite (h : s.WritesOnly ws t) (mem : .pix ∈ ws) (p : Nat) (v : Word) :
    s.WritesOnly ws (pixWrite p v t) := fun o ho => by
  cases o with
  | pix => exact absurd mem ho
  | _ => exact h _ ho

theorem State.WritesOnly.writeRes0 (h : s.WritesOnly ws t) (mem : .res0 ∈ ws) (v : Word) :
    s.WritesOnly ws (writeRes0 v t) := fun o ho => by
  cases o with
  | res0 => exact absurd mem ho
  | _ => exact h _ ho

/-- The two results of a glyph command. -/
theorem State.WritesOnly.writeRes10 (h : s.WritesOnly ws t) (mem : [.res0, .res1] ⊆ ws) (v1 v0 : Word) :
    s.WritesOnly ws (writeRes1 v1 (Machine.writeRes0 v0 t)) := fun o ho => by
  cases o with
  | res0 | res1 => exact absurd (mem (by simp)) ho
  | _ => exact h _ ho

/-- The four results of `ENCPIX` and of the grid-index calculators. -/
theorem State.WritesOnly.writeRes3210 (h : s.WritesOnly ws t) (mem : [.res0, .res1, .res2, .res3] ⊆ ws) (v3 v2 v1 v0 : Word) :
    s.WritesOnly ws (writeRes3 v3 (writeRes2 v2 (writeRes1 v1 (Machine.writeRes0 v0 t)))) := fun o ho => by
  cases o with
  | res0 | res1 | res2 | res3 => exact absurd (mem (by simp)) ho
  | _ => exact h _ ho

/-- Completion and an error report change no output (R220, R221). -/
theorem State.WritesOnly.complete (h : s.WritesOnly ws t) : s.WritesOnly ws (complete t) := fun o ho => by
  cases o <;> exact h _ ho

theorem State.WritesOnly.raiseError (h : s.WritesOnly ws t) (c : ErrCause) : s.WritesOnly ws (raiseError c t) := fun o ho => by
  cases o <;> exact h _ ho

/-! ### The commands' bodies -/

theorem contrastBody_writesOnly (mem : .pix ∈ ws) : Run.Keeps (s.WritesOnly ws) t (contrastBody t) :=
  .forUpTo fun p _ _ => .bind_read fun _ _ => .bind_read fun w' _ => .ok fun h => h.pixWrite mem p w'

theorem clearBody_writesOnly (mem : .mask ∈ ws) : Run.Keeps (s.WritesOnly ws) t (clearBody t) :=
  .forUpTo fun i _ _ => .ok fun h => h.maskWrite mem i 0#8

theorem setDot_if_writesOnly (mem : .mask ∈ ws) (b : Bool) (x y : Nat) :
    Run.Keeps (s.WritesOnly ws) t (if b then setDot x y t else .ok t) := by
  cases b with
  | true => exact .bind_read fun m _ => .ok fun h => h.maskWrite mem (t.cellIndex x y) (m ||| dotBit x y)
  | false => exact .ok id

theorem encodeBody_writesOnly (mem : .mask ∈ ws) : Run.Keeps (s.WritesOnly ws) t (encodeBody t) :=
  .forUpTo fun y _ _ => .forUpTo fun x a _ => .bind_read fun w _ => setDot_if_writesOnly mem (a.dotOn w) x y

theorem renderBody_writesOnly (mem : .mask ∈ ws) (memPix : .pix ∈ ws) :
    Run.Keeps (s.WritesOnly ws) t (renderBody t) := by
  refine (clearBody_writesOnly mem).bind fun a => .bind ?_ fun _ => encodeBody_writesOnly mem
  split
  · exact contrastBody_writesOnly memPix
  · exact .ok id

theorem encpixBody_writesOnly (mem : .mask ∈ ws) (memRes : [.res0, .res1, .res2, .res3] ⊆ ws) (a x y : Nat) :
    Run.Keeps (s.WritesOnly ws) t (encpixBody a x y t) :=
  .bind_read fun w _ => (setDot_if_writesOnly mem (t.covered x y && t.dotOn w) x y).bind fun _ =>
    .ok fun h => h.writeRes3210 memRes _ _ _ _

theorem unpackDot_writesOnly (mem : .pix ∈ ws) (m : Byte) (col row dy dx : Nat) :
    Run.Keeps (s.WritesOnly ws) t (unpackDot m col row dy dx t) := by
  rw [unpackDot_eq]
  split
  · exact .ok fun h => h.pixWrite mem _ _
  · exact .ok id

theorem unpackCell_writesOnly (mem : .pix ∈ ws) (i : Nat) : Run.Keeps (s.WritesOnly ws) t (unpackCell i t) :=
  .bind_read fun m _ => .forUpTo fun dy _ _ => .forUpTo fun dx _ _ => unpackDot_writesOnly mem m _ _ dy dx

end

/-! ### The commands -/

/-- Every command is the end of a piece of pseudocode that writes only what its row of the map names. -/
theorem exec_eq_finish_writesOnly (i : Instr) (s : State) :
    ∃ r, exec i s = finish s r ∧ Run.Keeps (s.WritesOnly (writesOf i)) s r := by
  cases i with
  | nop => exact ⟨_, rfl, .ok id⟩
  | clear => exact ⟨_, rfl, .require fun _ => clearBody_writesOnly (by simp)⟩
  | lutgen =>
    exact ⟨forUpTo Config.lutSize (lutgenEntry s.amount) s, rfl,
      .forUpTo fun c _ _ => .ok fun h => h.lutWrite (by simp) c _⟩
  | contrast => exact ⟨_, rfl, .require fun _ => contrastBody_writesOnly (by simp)⟩
  | encode => exact ⟨_, rfl, .require fun _ => encodeBody_writesOnly (by simp)⟩
  | render => exact ⟨_, rfl, .require fun _ => renderBody_writesOnly (by simp) (by simp)⟩
  | encpix =>
    exact ⟨_, rfl, .require fun _ => .require fun _ => encpixBody_writesOnly (by simp) (by simp) _ _ _⟩
  | luma => exact ⟨_, rfl, .ok fun h => h.writeRes0 (by simp) _⟩
  | curve => exact ⟨_, rfl, .bind_read fun w _ => .ok fun h => h.writeRes0 (by simp) w⟩
  | decide => exact ⟨_, rfl, .ok fun h => h.writeRes0 (by simp) _⟩
  | lumaxy =>
    exact ⟨_, rfl, .require fun _ => .require fun _ => .bind_read fun _ _ => .ok fun h => h.writeRes0 (by simp) _⟩
  | glyphEnc => exact ⟨_, rfl, .ok fun h => h.writeRes0 (by simp) _⟩
  | glyphCell =>
    exact ⟨_, rfl, .require fun _ => .require fun _ => .bind_read fun _ _ => .ok fun h => h.writeRes10 (by simp) _ _⟩
  | glyphDec => exact ⟨_, rfl, .ok fun h => h.writeRes10 (by simp) _ _⟩
  | setglyph =>
    exact ⟨_, rfl, .require fun _ => .require fun _ =>
      .ok fun h => (h.maskWrite (by simp) _ _).writeRes10 (by simp) _ _⟩
  | unpack => exact ⟨_, rfl, .require fun _ => .require fun _ => unpackCell_writesOnly (by simp) _⟩
  | unpackall => exact ⟨_, rfl, .require fun _ => .forUpTo fun i _ _ => unpackCell_writesOnly (by simp) i⟩
  | gridPix => exact ⟨_, rfl, .require fun _ => .ok fun h => h.writeRes3210 (by simp) _ _ _ _⟩
  | gridCell => exact ⟨_, rfl, .require fun _ => .ok fun h => h.writeRes3210 (by simp) _ _ _ _⟩

theorem exec_writesOnly {i : Instr} {s t : State} (h : exec i s = .next t) : s.WritesOnly (writesOf i) t := by
  obtain ⟨r, hr, keeps⟩ := exec_eq_finish_writesOnly i s
  have start := State.WritesOnly.refl (writesOf i) s
  rcases finish_eq_next.1 (hr ▸ h) with ⟨u, hu, rfl⟩ | ⟨c, _, rfl⟩
  · exact (keeps start u hu).complete
  · exact (start.raiseError c).complete

/-! ### The rows that name an output -/

theorem lut_mem_writesOf {i : Instr} : .lut ∈ writesOf i ↔ i = .lutgen := by
  cases i <;> simp

theorem mask_mem_writesOf {i : Instr} : .mask ∈ writesOf i ↔ i ∈ [.clear, .encode, .render, .encpix, .setglyph] := by
  cases i <;> simp

theorem pix_mem_writesOf {i : Instr} : .pix ∈ writesOf i ↔ i ∈ [.contrast, .render, .unpack, .unpackall] := by
  cases i <;> simp

theorem res0_mem_writesOf {i : Instr} :
    .res0 ∈ writesOf i ↔
      i ∈ [.encpix, .luma, .curve, .decide, .lumaxy, .glyphEnc, .glyphCell, .glyphDec, .setglyph, .gridPix, .gridCell] := by
  cases i <;> simp

theorem res1_mem_writesOf {i : Instr} :
    .res1 ∈ writesOf i ↔ i ∈ [.encpix, .glyphCell, .glyphDec, .setglyph, .gridPix, .gridCell] := by
  cases i <;> simp

theorem res2_mem_writesOf {i : Instr} : .res2 ∈ writesOf i ↔ i ∈ [.encpix, .gridPix, .gridCell] := by
  cases i <;> simp

theorem res3_mem_writesOf {i : Instr} : .res3 ∈ writesOf i ↔ i ∈ [.encpix, .gridPix, .gridCell] := by
  cases i <;> simp

end Sys2Proof.Machine
end

section
/-! The statements of the family 30_encoding. -/

namespace Sys2Proof.Proofs

open Sys2Proof Sys2Proof.Machine

/-- Settles O2: both directions are those of one equivalence. -/
theorem decodeAndEncodeAgree : Obligations.DecodeAndEncodeAgree :=
  ⟨fun i _ => decode_encode i, fun _ _ h => decode_eq_ok_iff.1 h⟩

/-- Settles O3: the named words fail a check of R94, so they are no command's word and run as the ILLEGAL report. -/
theorem illegalWordOnlyReports : Obligations.IllegalWordOnlyReports := by
  refine ⟨decode_encode, fun w o ho illegal => ?_⟩
  have refused : commandWordWellFormed w = false := by
    rw [← Bool.not_eq_true, commandWordWellFormed_iff, reservedFieldClear_iff]
    rintro ⟨reserved, assigned⟩
    cases ((opcodeAssigned_eq_false_iff ho).2 (illegal.resolve_left (not_not_intro reserved))).symm.trans assigned
  obtain ⟨e, decoded⟩ := decode_error_of_not_wellFormed refused
  refine ⟨⟨e, decoded⟩, fun i hw => ?_, fun s hbusy => ⟨fun hbox => ?_, fun a rest hbox => ?_, fun rest hbox => ?_⟩⟩
  · cases (decode_eq_ok_iff.2 hw).symm.trans decoded
  · rw [step_busy_waiting hbusy (.inl hbox), runCommand_of_error decoded]
  · rw [step_busy_waiting hbusy (.inr ⟨a, rest, hbox⟩), runCommand_of_error decoded]
  · rw [step_busy_engine hbusy hbox, runCommand_of_error decoded]
    rfl

/-- Settles O8: the early reads, then the command's run while the last read waits, then that read at the idle block. -/
theorem waitidleReadsUntilIdle : Obligations.WaitidleReadsUntilIdle := by
  intro s t p rest
  refine ⟨fun w hbusy hbox hrun => ⟨by rw [statusWord_busy, hbusy]; rfl, ?_⟩, fun hidle hearly hbox => ?_⟩
  · have hpolls : s.inbox = List.replicate p.early .poll ++ .host (.read 0x03C#25) :: rest := by
      rw [hbox, waitIdleEvents, List.append_assoc]
      rfl
    obtain ⟨hidle, hread⟩ := runCommand_completes hrun
    obtain ⟨x, hx, hlast⟩ := step_idle_status hidle hread
    refine ⟨x, hx, ?_⟩
    rw [Nat.add_comm, run_polls p.early 2 s _ hpolls]
    refine (run_succ_of_next 1 (t := t) ?_).trans ((run_one t).trans hlast)
    rw [← hrun]
    exact step_busy_waiting hbusy (.inr ⟨_, _, rfl⟩)
  · refine step_idle_status hidle ?_
    rw [hbox, waitIdleEvents, hearly]
    rfl

/-- Settles O28: a command writes only what its row names, and the statement lists the rows that name each output. -/
theorem commandsWriteOnlyWhatTheMapNames : Obligations.CommandsWriteOnlyWhatTheMapNames := by
  intro i s t h
  have unchanged {o : Output} {P : Prop} (rows : o ∈ writesOf i ↔ P) (hn : ¬ P) : o.Same s t :=
    exec_writesOnly h o (rows.not.2 hn)
  exact ⟨unchanged lut_mem_writesOf, unchanged mask_mem_writesOf, unchanged pix_mem_writesOf, unchanged res0_mem_writesOf,
    unchanged res1_mem_writesOf, fun hn => ⟨unchanged res2_mem_writesOf hn, unchanged res3_mem_writesOf hn⟩⟩

/-- Settles O1: the six words are those of their commands. -/
theorem sampleWordsDecode : Obligations.SampleWordsDecode :=
  ⟨decode_encode .nop, decode_encode .encode, decode_encode .luma, decode_encode .glyphCell, decode_encode .unpack,
    decode_encode .gridCell⟩

end Sys2Proof.Proofs
end

section
/-! The pure functions of the photometric pipeline (40_photometric.md R110 to R113): each said once as arithmetic on the values of
the channels. -/

namespace Sys2Proof.Machine

/-! ### Channels of a pixel word (R65) -/

theorem channelR_toNat (w : Word) : (channelR w).toNat = w.toNat % 256 := by
  simp [channelR]

theorem channelG_toNat (w : Word) : (channelG w).toNat = w.toNat / 256 % 256 := by
  simp [channelG, Nat.shiftRight_eq_div_pow]

theorem channelB_toNat (w : Word) : (channelB w).toNat = w.toNat / 65536 % 256 := by
  simp [channelB, Nat.shiftRight_eq_div_pow]

theorem arg0Byte_toNat (s : State) : s.arg0Byte.toNat = s.arg0.toNat % 256 := channelR_toNat s.arg0

section
variable (a b g r : Byte)

@[simp] theorem channelR_pixelWord : channelR (pixelWord a b g r) = r := BitVec.extractLsb'_append_eq_right

@[simp] theorem channelG_pixelWord : channelG (pixelWord a b g r) = g := by
  rw [channelG, pixelWord, BitVec.extractLsb'_append_eq_of_le (Nat.le_refl 8)]
  exact BitVec.extractLsb'_append_eq_right

@[simp] theorem channelB_pixelWord : channelB (pixelWord a b g r) = b := by
  rw [channelB, pixelWord, BitVec.extractLsb'_append_eq_of_le (by decide), BitVec.extractLsb'_append_eq_of_le (by decide)]
  exact BitVec.extractLsb'_append_eq_right

@[simp] theorem channelA_pixelWord : channelA (pixelWord a b g r) = a := by
  rw [channelA, pixelWord, BitVec.extractLsb'_append_eq_of_le (by decide), BitVec.extractLsb'_append_eq_of_le (by decide)]
  exact BitVec.extractLsb'_append_eq_left

end

/-- A pixel word is its four channels. -/
theorem pixelWord_channels (w : Word) : pixelWord (channelA w) (channelB w) (channelG w) (channelR w) = w := by
  simp only [pixelWord, channelA, channelB, channelG, channelR]
  rw [BitVec.extractLsb'_append_extractLsb'_eq_extractLsb' (show 24 = 16 + 8 from rfl),
    BitVec.extractLsb'_append_extractLsb'_eq_extractLsb' (show 16 = 8 + 8 from rfl),
    BitVec.extractLsb'_append_extractLsb'_eq_extractLsb' (show 8 = 0 + 8 from rfl)]
  exact BitVec.extractLsb'_eq_self

/-! ### Clamped bytes (R9) -/

/-- The byte of a value clamped to 0 and 255 is that clamped value. -/
theorem toNat_ofInt_clamp (v : Int) : ((BitVec.ofInt 8 (clamp v 0 255)).toNat : Int) = clamp v 0 255 := by
  rw [BitVec.toNat_ofInt, clamp]
  omega

theorem clamp_of_mem {v : Int} (h0 : 0 ≤ v) (h1 : v ≤ 255) : clamp v 0 255 = v := by
  rw [clamp, max_eq_left h0, min_eq_left h1]

theorem clamp_mono {u v : Int} (h : u ≤ v) : clamp u 0 255 ≤ clamp v 0 255 :=
  min_le_min_right 255 (max_le_max_right 0 h)

/-! ### Luminance (R110) -/

/-- The weights sum to 1000, so the luminance of three bytes is a byte and the clamp never acts. -/
theorem luma_toNat (w : Word) :
    (luma w).toNat = (w.toNat % 256 * 299 + w.toNat / 256 % 256 * 587 + w.toNat / 65536 % 256 * 114) / 1000 := by
  rw [← channelR_toNat, ← channelG_toNat, ← channelB_toNat]
  generalize hs : (channelR w).toNat * 299 + (channelG w).toNat * 587 + (channelB w).toNat * 114 = sum
  have bound : sum ≤ 255000 := by omega
  have weighted : Int.fdiv ((channelR w).toNat * 299 + (channelG w).toNat * 587 + (channelB w).toNat * 114) 1000 =
      ((sum / 1000 : Nat) : Int) := by
    rw [← hs, Int.ofNat_fdiv]
    push_cast
    rfl
  have value : ((luma w).toNat : Int) = _ := toNat_ofInt_clamp _
  rw [weighted, clamp_of_mem (by omega) (by omega)] at value
  exact Int.ofNat.inj value

/-! ### The contrast curve (R111) -/

/-- Floor division of integers is the floor of their rational quotient, whatever the signs. -/
theorem floor_div_eq_fdiv (n d : Int) : ⌊(n : ℚ) / (d : ℚ)⌋ = Int.fdiv n d := by
  obtain ⟨k, rfl | rfl⟩ := d.eq_nat_or_neg
  · rw [Int.cast_natCast, Rat.floor_intCast_div_natCast, Int.fdiv_eq_ediv_of_nonneg _ (Int.natCast_nonneg k)]
  · rw [← Int.neg_fdiv_neg, neg_neg, Int.cast_neg, div_neg, ← neg_div, ← Int.cast_neg, Int.cast_natCast,
      Rat.floor_intCast_div_natCast, Int.fdiv_eq_ediv_of_nonneg _ (Int.natCast_nonneg k)]

/-- The slope of the contrast curve of amount `a` about its fixed point 128. -/
def curveSlope (a : Int) : ℚ := 259 * ((a : ℚ) + 255) / (255 * (259 - (a : ℚ)))

/-- Away from amount 259 the curve is a line through (128, 128), rounded down and clamped. -/
theorem curveFn_eq_clamp_floor {a : Int} (h : a ≠ 259) (c : Byte) :
    ((curveFn a c).toNat : Int) = clamp (⌊curveSlope a * ((c.toNat : ℚ) - 128)⌋ + 128) 0 255 := by
  have line : curveSlope a * ((c.toNat : ℚ) - 128) =
      ((259 * (a + 255) * ((c.toNat : Int) - 128) : Int) : ℚ) / ((255 * (259 - a) : Int) : ℚ) := by
    rw [curveSlope, div_mul_eq_mul_div]
    push_cast
    rfl
  rw [line, floor_div_eq_fdiv, curveFn, if_neg h, toNat_ofInt_clamp]

theorem curveFn_259_toNat (c : Byte) :
    (curveFn 259 c).toNat = if c.toNat < 128 then 0 else if c.toNat = 128 then 128 else 255 := by
  rw [curveFn, if_pos rfl]
  split_ifs <;> rfl

theorem curveSlope_zero : curveSlope 0 = 1 := by norm_num [curveSlope]

theorem curveSlope_neg_255 : curveSlope (-255) = 0 := by norm_num [curveSlope]

theorem curveSlope_nonneg {a : Int} (low : -255 ≤ a) (high : a ≤ 259) : 0 ≤ curveSlope a := by
  have low : (-255 : ℚ) ≤ a := by exact_mod_cast low
  have high : (a : ℚ) ≤ 259 := by exact_mod_cast high
  exact div_nonneg (by linarith) (by linarith)

theorem curveSlope_nonpos {a : Int} (h : a < -255 ∨ 259 < a) : curveSlope a ≤ 0 := by
  rcases h with low | high
  · have low : (a : ℚ) < -255 := by exact_mod_cast low
    exact div_nonpos_of_nonpos_of_nonneg (by linarith) (by linarith)
  · have high : (259 : ℚ) < a := by exact_mod_cast high
    exact div_nonpos_of_nonneg_of_nonpos (by linarith) (by linarith)

/-- With amount 0 the line has slope 1, so the curve is the identity. -/
theorem curveFn_zero (c : Byte) : curveFn 0 c = c := by
  have value := curveFn_eq_clamp_floor (a := 0) (by decide) c
  have line : ⌊curveSlope 0 * ((c.toNat : ℚ) - 128)⌋ = (c.toNat : Int) - 128 := by
    rw [curveSlope_zero, one_mul]
    exact_mod_cast Int.floor_intCast ((c.toNat : Int) - 128)
  rw [line, sub_add_cancel, clamp_of_mem (by omega) (by omega)] at value
  exact BitVec.eq_of_toNat_eq (Int.ofNat.inj value)

/-- A curve whose line gives 0 at `c` has the value 128 there. -/
theorem curveFn_eq_128 {a : Int} {c : Byte} (h : a ≠ 259) (line : curveSlope a * ((c.toNat : ℚ) - 128) = 0) :
    curveFn a c = 128#8 := by
  have value := curveFn_eq_clamp_floor h c
  rw [line, Int.floor_zero] at value
  exact BitVec.eq_of_toNat_eq (Int.ofNat.inj value)

theorem curveFn_neg_255 (c : Byte) : curveFn (-255) c = 128#8 :=
  curveFn_eq_128 (by decide) (by rw [curveSlope_neg_255, zero_mul])

theorem curveFn_at_128 (a : Int) : curveFn a 128#8 = 128#8 := by
  by_cases h : a = 259
  · subst h
    rfl
  · exact curveFn_eq_128 h (by norm_num)

/-- A curve whose line does not fall from `c` to `d` does not fall there. -/
theorem curveFn_le_curveFn {a : Int} {c d : Byte} (h : a ≠ 259)
    (line : curveSlope a * ((c.toNat : ℚ) - 128) ≤ curveSlope a * ((d.toNat : ℚ) - 128)) :
    (curveFn a c).toNat ≤ (curveFn a d).toNat := by
  have clamped := clamp_mono (add_le_add_left (Int.floor_le_floor line) 128)
  rw [← curveFn_eq_clamp_floor h, ← curveFn_eq_clamp_floor h] at clamped
  exact Int.ofNat_le.1 clamped

theorem curveFn_falls {a : Int} {c d : Byte} (hcd : c.toNat ≤ d.toNat) (h : a < -255 ∨ 259 < a) :
    (curveFn a d).toNat ≤ (curveFn a c).toNat :=
  curveFn_le_curveFn (by omega)
    (mul_le_mul_of_nonpos_left (sub_le_sub_right (Nat.cast_le.2 hcd) 128) (curveSlope_nonpos h))

theorem curveFn_rises {a : Int} {c d : Byte} (hcd : c.toNat ≤ d.toNat) (low : -255 ≤ a) (high : a ≤ 259) :
    (curveFn a c).toNat ≤ (curveFn a d).toNat := by
  by_cases h : a = 259
  · subst h
    rw [curveFn_259_toNat, curveFn_259_toNat]
    split_ifs <;> omega
  · exact curveFn_le_curveFn h
      (mul_le_mul_of_nonneg_left (sub_le_sub_right (Nat.cast_le.2 hcd) 128) (curveSlope_nonneg low high))

/-! ### The dot decision (R113) -/

/-- Inverting both sides of a comparison of bytes turns it round. -/
theorem dot_iff {l t : Byte} {inv : Bool} :
    dot l t inv = true ↔ if inv = true then l.toNat ≤ t.toNat else t.toNat ≤ l.toNat := by
  cases inv with
  | false => exact decide_eq_true_iff
  | true => exact decide_eq_true_iff.trans (show 255 - t.toNat ≤ 255 - l.toNat ↔ l.toNat ≤ t.toNat by omega)

theorem toNat_255_sub (v : Byte) : (255#8 - v).toNat = 255 - v.toNat := by bv_omega

theorem dot_inverted (l t : Byte) : dot l t true = dot (255#8 - l) (255#8 - t) false := by
  change decide (255 - t.toNat ≤ 255 - l.toNat) = decide ((255#8 - t).toNat ≤ (255#8 - l).toNat)
  rw [toNat_255_sub, toNat_255_sub]

end Sys2Proof.Machine
end

section
/-! The photometric commands (40_photometric.md R114 to R118): the sweeps of `LUTGEN` and `CONTRAST` over a memory, and what each
command answers. -/

namespace Sys2Proof.Machine

/-! ### Sweeps over a memory -/

/-- `new` is `old` with the entries below `n` replaced by the values of `f`, all of which exist. -/
structure Memory.Swept {w : Nat} (old : Memory w) (f : Nat → Option (BitVec w)) (n : Nat) (new : Memory w) : Prop where
  defined : ∀ c, c < n → (f c).isSome = true
  read_eq : ∀ c, Memory.read new c = if c < n then f c else Memory.read old c

section
variable {w n : Nat} {old new : Memory w} {f : Nat → Option (BitVec w)}

theorem Memory.Swept.zero : Memory.Swept old f 0 old where
  defined _ h := absurd h (Nat.not_lt_zero _)
  read_eq c := (if_neg (Nat.not_lt_zero c)).symm

/-- The sweep has not yet reached entry `n`. -/
theorem Memory.Swept.read_next (h : Memory.Swept old f n new) : Memory.read new n = Memory.read old n := by
  rw [h.read_eq, if_neg (Nat.lt_irrefl n)]

/-- One turn of a sweep. -/
theorem Memory.Swept.write {v : BitVec w} (h : Memory.Swept old f n new) (hv : f n = some v) :
    Memory.Swept old f (n + 1) (Memory.write new n v) where
  defined c hc := by
    rcases Nat.lt_succ_iff_lt_or_eq.1 hc with hc | rfl
    · exact h.defined c hc
    · rw [hv, Option.isSome_some]
  read_eq c := by
    rw [Memory.read_write]
    split
    next here => rw [here, if_pos (Nat.lt_succ_self n), hv]
    next elsewhere => simp only [h.read_eq, Nat.lt_succ_iff_lt_or_eq, elsewhere, or_false]

end

/-! ### LUTGEN (R115) -/

/-- The LUT of `s` has been filled up to entry `n` with the curve of amount `a`, and nothing else has changed. -/
structure State.LutFilled (s : State) (a : Int) (n : Nat) (t : State) : Prop where
  onlyLut : t = { s with lut := t.lut }
  swept : Memory.Swept s.lut (fun c => some (curveFn a (BitVec.ofNat 8 c))) n t.lut

theorem State.LutFilled.lutWrite {s t : State} {a : Int} {n : Nat} (h : s.LutFilled a n t) :
    s.LutFilled a (n + 1) (lutWrite n (curveFn a (BitVec.ofNat 8 n)) t) where
  onlyLut := by
    rw [Machine.lutWrite, h.onlyLut]
  swept := h.swept.write rfl

theorem exec_lutgen (s : State) : ∃ t, exec .lutgen s = .next (complete t) ∧ s.LutFilled s.amount 256 t := by
  obtain ⟨t, run, filled⟩ := forUpTo_completes (n := 256) (body := lutgenEntry s.amount) (s.LutFilled s.amount)
    ⟨rfl, .zero⟩ fun c u _ hu => ⟨_, lutgenEntry_eq s.amount c u, hu.lutWrite⟩
  refine ⟨t, ?_, filled⟩
  rw [exec, execLutgen, Config.lutSize, run, finish_ok]

/-! ### CURVE (R112, R116) -/

/-- `CURVE_WORD` has a value exactly when the three LUT entries its lanes select are written. -/
theorem curved_eq_some_iff {s : State} {w x : Word} :
    s.curved w = some x ↔ ∃ b g r, Memory.read s.lut (channelB w).toNat = some b ∧
      Memory.read s.lut (channelG w).toNat = some g ∧ Memory.read s.lut (channelR w).toNat = some r ∧
      pixelWord (channelA w) b g r = x := by
  simp only [State.curved, Option.bind_eq_some_iff, Option.map_eq_some_iff]
  constructor
  · rintro ⟨b, hb, g, hg, r, hr, hx⟩
    exact ⟨b, g, r, hb, hg, hr, hx⟩
  · rintro ⟨b, g, r, hb, hg, hr, hx⟩
    exact ⟨b, hb, g, hg, r, hr, hx⟩

theorem curveWord_stops {s : State} {w : Word} (h : s.curved w = none) : ∃ c, curveWord w s = .stop (.unwrittenLut c) := by
  cases run : curveWord w s with
  | ok x => cases h.symm.trans (curveWord_eq_ok.1 run)
  | raise c => exact absurd run (curveWord_ne_raise w s c)
  | stop f =>
    obtain ⟨c, rfl, _⟩ := curveWord_eq_stop run
    exact ⟨c, rfl⟩

theorem exec_curve_of_curved {s : State} {x : Word} (h : s.curved s.arg0 = some x) :
    exec .curve s = .next (complete (writeRes0 x s)) := by
  rw [exec, execCurve, curveWord_eq_ok.2 h, Run.bind_ok, finish_ok]

theorem exec_curve_of_not_curved {s : State} (h : s.curved s.arg0 = none) :
    ∃ c, exec .curve s = .fault (.unwrittenLut c) := by
  obtain ⟨c, stops⟩ := curveWord_stops h
  exact ⟨c, by rw [exec, execCurve, stops, Run.bind_stop, finish_stop]⟩

/-! ### CONTRAST (R117) -/

/-- The pixels of `s` up to `n` have been sent through the LUT, and nothing else has changed. -/
structure State.Contrasted (s : State) (n : Nat) (t : State) : Prop where
  onlyPix : t = { s with pix := t.pix }
  swept : Memory.Swept s.pix (fun p => (Memory.read s.pix p).bind s.curved) n t.pix

section
variable {s t u : State} {n : Nat}

theorem State.Contrasted.refl (s : State) : s.Contrasted 0 s := ⟨rfl, .zero⟩

theorem State.Contrasted.curved (h : s.Contrasted n t) : t.curved = s.curved := by
  rw [h.onlyPix]
  rfl

/-- A pixel is still as `CONTRAST` found it when its turn comes, so the pass in place reads no pixel it has written. -/
theorem State.Contrasted.contrastPixel_eq_ok (h : s.Contrasted n t) :
    contrastPixel n t = .ok u ↔ ∃ x, (Memory.read s.pix n).bind s.curved = some x ∧ u = pixWrite n x t := by
  rw [Machine.contrastPixel_eq_ok, h.curved, h.swept.read_next]
  simp only [Option.bind_eq_some_iff]
  constructor
  · rintro ⟨w, x, hw, hx, hu⟩
    exact ⟨x, ⟨w, hw, hx⟩, hu⟩
  · rintro ⟨x, ⟨w, hw, hx⟩, hu⟩
    exact ⟨w, x, hw, hx, hu⟩

theorem State.Contrasted.pixWrite {x : Word} (h : s.Contrasted n t) (hx : (Memory.read s.pix n).bind s.curved = some x) :
    s.Contrasted (n + 1) (pixWrite n x t) where
  onlyPix := by
    rw [Machine.pixWrite, h.onlyPix]
  swept := h.swept.write hx

/-- The pass of `CONTRAST` ends only with the whole buffer sent through the LUT. -/
theorem contrastBody_contrasts (h : contrastBody s = .ok t) : s.Contrasted s.pixelCount t :=
  forUpTo_induct s.Contrasted (.refl s) (fun _ _ _ _ ha hb => by
    obtain ⟨x, hx, rfl⟩ := ha.contrastPixel_eq_ok.1 hb
    exact ha.pixWrite hx) h

theorem contrastBody_completes (ready : s.contrastReady) :
    ∃ t, contrastBody s = .ok t ∧ s.Contrasted s.pixelCount t :=
  forUpTo_completes s.Contrasted (.refl s) fun p a hp ha => by
    obtain ⟨x, hx⟩ := Option.isSome_iff_exists.1 (ready p hp)
    exact ⟨_, ha.contrastPixel_eq_ok.2 ⟨x, hx, rfl⟩, ha.pixWrite hx⟩

theorem contrastBody_stops (unready : ¬ s.contrastReady) : ∃ f, contrastBody s = .stop f := by
  cases run : contrastBody s with
  | ok t => exact absurd (contrastBody_contrasts run).swept.defined unready
  | raise c => exact absurd run (contrastBody_ne_raise s c)
  | stop f => exact ⟨f, rfl⟩

theorem exec_contrast_of_not_geomOk (h : s.geomOk = false) : exec .contrast s = .next (s.reported 2#4) := by
  rw [exec, execContrast, h, Run.require_false, Run.bind_raise, finish_raise]
  rfl

theorem exec_contrast_of_geomOk (h : s.geomOk = true) : exec .contrast s = finish s (contrastBody s) := by
  rw [exec, execContrast, h, Run.require_true, Run.bind_ok]

theorem exec_contrast_of_ready (h : s.geomOk = true) (ready : s.contrastReady) :
    ∃ t, exec .contrast s = .next (complete t) ∧ s.Contrasted s.pixelCount t := by
  obtain ⟨t, run, contrasted⟩ := contrastBody_completes ready
  exact ⟨t, by rw [exec_contrast_of_geomOk h, run, finish_ok], contrasted⟩

end

/-! ### The identity LUT -/

/-- At amount 0 the filled LUT maps every byte to itself (R111, R115). -/
theorem State.LutFilled.read_of_amount_zero {s t : State} (h : s.LutFilled 0 256 t) (v : Byte) :
    Memory.read t.lut v.toNat = some v := by
  rw [h.swept.read_eq, if_pos v.isLt, curveFn_zero, BitVec.ofNat_toNat, BitVec.setWidth_eq]

/-- Through a LUT that maps every byte to itself, every pixel word is its own `CURVE_WORD`. -/
theorem curved_of_identity_lut {s : State} (h : ∀ v : Byte, Memory.read s.lut v.toNat = some v) (w : Word) :
    s.curved w = some w :=
  curved_eq_some_iff.2 ⟨channelB w, channelG w, channelR w, h _, h _, h _, pixelWord_channels w⟩

end Sys2Proof.Machine
end

section
/-! The statements of the family 40_photometric. -/

namespace Sys2Proof.Proofs

open Sys2Proof Sys2Proof.Machine

/-- Settles O34: the weighted sum of three bytes, divided by 1000, is a byte. -/
theorem lumaWeightsChannels : Obligations.LumaWeightsChannels := by
  refine ⟨rfl, fun s => ?_⟩
  rw [← luma_toNat, BitVec.ofNat_toNat]
  exact ⟨rfl, Nat.le_of_lt_succ (luma s.arg0).isLt⟩

/-- Settles O35: the line of `curveSlope`, written out as one quotient. -/
theorem curveIsClampedFloor : Obligations.CurveIsClampedFloor := by
  refine fun a c => ⟨fun h => ?_, fun h => h ▸ curveFn_259_toNat c⟩
  rw [curveFn_eq_clamp_floor h, curveSlope, div_mul_eq_mul_div]
  rfl

/-- Settles O36, by the sign of the slope. -/
theorem curveShape : Obligations.CurveShape :=
  ⟨curveFn_zero, curveFn_neg_255, curveFn_at_128, fun _ _ _ => curveFn_falls, fun _ _ _ => curveFn_rises⟩

/-- Settles O37, by the sweep of the LUT. -/
theorem lutgenWritesTheCurve : Obligations.LutgenWritesTheCurve := by
  refine ⟨rfl, fun s => ?_⟩
  obtain ⟨t, run, filled⟩ := exec_lutgen s
  refine ⟨t.lut, ?_, filled.swept.read_eq⟩
  rw [run, filled.onlyLut]
  rfl

/-- Settles O38: `CURVE_WORD` of `ARG0` has a value exactly when its three entries are written. -/
theorem curveMapsTheThreeLanes : Obligations.CurveMapsTheThreeLanes := by
  refine ⟨rfl, fun s => ?_⟩
  simp only [← channelR_toNat, ← channelG_toNat, ← channelB_toNat]
  refine ⟨fun b g r hb hg hr => ?_, fun unwritten => exec_curve_of_not_curved ?_⟩
  · have value : s.curved s.arg0 = some (pixelWord (channelA s.arg0) b g r) :=
      curved_eq_some_iff.2 ⟨b, g, r, hb, hg, hr, rfl⟩
    exact ⟨pixelWord (channelA s.arg0) b g r, exec_curve_of_curved value, channelR_pixelWord .., channelG_pixelWord ..,
      channelB_pixelWord .., channelA_pixelWord ..⟩
  · refine Option.eq_none_iff_forall_ne_some.2 fun x hx => ?_
    obtain ⟨b, g, r, hb, hg, hr, _⟩ := curved_eq_some_iff.1 hx
    simp [hb, hg, hr] at unwritten

/-- Settles O39, by the sweep of the pixel RAM: it stops exactly when something it reads is unwritten. -/
theorem contrastMapsTheWholeBuffer : Obligations.ContrastMapsTheWholeBuffer := by
  refine ⟨rfl, fun _ => exec_contrast_of_not_geomOk, fun s geom unready => ?_, fun s geom ready => ?_⟩
  · obtain ⟨f, stops⟩ := contrastBody_stops unready
    exact ⟨f, by rw [exec_contrast_of_geomOk geom, stops, finish_stop]⟩
  · obtain ⟨t, run, contrasted⟩ := exec_contrast_of_ready geom ready
    refine ⟨t.pix, ?_, contrasted.swept.read_eq⟩
    rw [run, contrasted.onlyPix]
    rfl

/-- Settles O40: `LUTGEN` fills the identity LUT, through which `CONTRAST` sends every pixel to itself. -/
theorem zeroAmountContrastIsIdentity : Obligations.ZeroAmountContrastIsIdentity := by
  intro s amount geom written
  obtain ⟨t, lutgen, filled⟩ := exec_lutgen s
  have zero : s.amount = 0 := by
    rw [State.amount, amount]
    rfl
  rw [zero] at filled
  have identity : (complete t).curved = some := funext (curved_of_identity_lut filled.read_of_amount_zero)
  have unchanged : (complete t).geomOk = s.geomOk ∧ (complete t).pixelCount = s.pixelCount ∧ (complete t).pix = s.pix := by
    rw [filled.onlyLut]
    exact ⟨rfl, rfl, rfl⟩
  obtain ⟨sameGeom, sameCount, samePix⟩ := unchanged
  have ready : (complete t).contrastReady := fun p hp => by
    rw [samePix, identity, Option.bind_fun_some]
    exact written p (sameCount ▸ hp)
  obtain ⟨u, contrast, contrasted⟩ := exec_contrast_of_ready (sameGeom.trans geom) ready
  refine ⟨_, _, lutgen, contrast, fun p => ?_⟩
  rw [complete_pix, contrasted.swept.read_eq, samePix, identity, Option.bind_fun_some, ite_self]

/-- Settles O41, by the comparison of bytes. -/
theorem decideComparesWithDoubleInversion : Obligations.DecideComparesWithDoubleInversion := by
  refine ⟨rfl, fun s => ?_, dot_inverted⟩
  have decision : boolWord (dot s.arg0Byte s.thresh s.invert) =
      if (if s.ctrl.getLsbD 0 = true then s.arg0.toNat % 256 ≤ s.thresh.toNat else s.thresh.toNat ≤ s.arg0.toNat % 256)
        then 1#32 else 0#32 := by
    rw [boolWord, ← arg0Byte_toNat]
    exact if_congr dot_iff rfl rfl
  rw [← decision]
  rfl

end Sys2Proof.Proofs
end

section
/-! The bit layouts of the bit-packer (41_encoder.md R140 to R144): where the pixels of a cell stand, the dots of a set of pixels as
mask bits, and the glyph bits of a mask. -/

namespace Sys2Proof.Machine

/-! ### Cells and their pixels (R140, R144) -/

/-- The column of the pixel of bit `b` of cell `i`. -/
def State.bitX (s : State) (i b : Nat) : Nat := 2 * (i % s.cols) + b % 2

/-- The row of the pixel of bit `b` of cell `i`. -/
def State.bitY (s : State) (i b : Nat) : Nat := 4 * (i / s.cols) + b / 2

theorem bitX_add (s : State) (i dy : Nat) {dx : Nat} (h : dx < 2) : s.bitX i (dx + 2 * dy) = 2 * (i % s.cols) + dx := by
  rw [State.bitX, Nat.add_mul_mod_self_left, Nat.mod_eq_of_lt h]

theorem bitY_add (s : State) (i dy : Nat) {dx : Nat} (h : dx < 2) : s.bitY i (dx + 2 * dy) = 4 * (i / s.cols) + dy := by
  rw [State.bitY, Nat.add_mul_div_left _ _ Nat.two_pos, Nat.div_eq_of_lt h, Nat.zero_add]

theorem bitIdx_lt (x y : Nat) : bitIdx x y < 8 := by
  unfold bitIdx
  omega

/-- A covered pixel belongs to one bit of one cell. -/
theorem bit_of_covered_iff {s : State} {x y i b : Nat} (h : s.covered x y = true) (hb : b < 8) :
    (s.bitX i b = x ∧ s.bitY i b = y) ↔ i = s.cellIndex x y ∧ b = bitIdx x y := by
  unfold State.bitX State.bitY bitIdx
  constructor
  · rintro ⟨hx, hy⟩
    have column : x / 2 = i % s.cols := by omega
    have row : y / 4 = i / s.cols := by omega
    have index : i = y / 4 * s.cols + x / 2 := by rw [column, row, Nat.div_add_mod']
    exact ⟨index, by omega⟩
  · rintro ⟨rfl, rfl⟩
    obtain ⟨_, column, row⟩ := cellIndex_of_covered h
    rw [column, row]
    omega

/-- The bits of a cell beyond the grid have no covered pixel. -/
theorem lt_cellCount_of_covered {s : State} {i b : Nat} (h : s.covered (s.bitX i b) (s.bitY i b) = true) (hb : b < 8) :
    i < s.cellCount := by
  obtain ⟨own, _⟩ := (bit_of_covered_iff h hb).1 ⟨rfl, rfl⟩
  exact own ▸ (cellIndex_of_covered h).1

/-- Pixels of the same cell have the same cell column and cell row. -/
theorem cellIndex_eq_iff {s : State} {x y x' y' : Nat} (h : s.covered x y = true) (h' : s.covered x' y' = true) :
    s.cellIndex x y = s.cellIndex x' y' ↔ x / 2 = x' / 2 ∧ y / 4 = y' / 4 := by
  obtain ⟨_, column, row⟩ := cellIndex_of_covered h
  obtain ⟨_, column', row'⟩ := cellIndex_of_covered h'
  constructor
  · intro same
    rw [← column, ← row, ← column', ← row', same]
    exact ⟨rfl, rfl⟩
  · rintro ⟨sameColumn, sameRow⟩
    simp only [State.cellIndex, Config.dotsPerCellX, Config.dotsPerCellY, sameColumn, sameRow]

/-! ### The dots of a set of pixels -/

theorem dotAt_eq_of_read {s : State} {x y : Nat} {w : Word} (h : Memory.read s.pix (s.pixelIndex x y) = some w) :
    s.dotAt x y = s.dotOn w := by
  rw [State.dotAt, h]

theorem dotAt_iff {s : State} {x y : Nat} :
    s.dotAt x y = true ↔ ∃ w, Memory.read s.pix (s.pixelIndex x y) = some w ∧ s.dotOn w = true := by
  unfold State.dotAt
  split <;> simp_all

/-- The dots of cell `i` that the pixels in `P` decide, as a mask. -/
def State.dotsOf (s : State) (P : Nat → Nat → Bool) (i : Nat) : Byte :=
  packBits (fun b => P (s.bitX i b) (s.bitY i b) && s.dotAt (s.bitX i b) (s.bitY i b)) 8

theorem cellDots_eq_dotsOf_covered (s : State) (i : Nat) : s.cellDots i = s.dotsOf s.covered i := rfl

theorem dotsOf_getLsbD (s : State) (P : Nat → Nat → Bool) (i : Nat) {b : Nat} (hb : b < 8) :
    (s.dotsOf P i).getLsbD b = (P (s.bitX i b) (s.bitY i b) && s.dotAt (s.bitX i b) (s.bitY i b)) := by
  rw [State.dotsOf, packBits_getLsbD _ _ _ hb, decide_eq_true hb, Bool.true_and]

theorem dotsOf_empty (s : State) (i : Nat) : s.dotsOf (fun _ _ => false) i = 0#8 :=
  BitVec.eq_of_getLsbD_eq fun b hb => by rw [dotsOf_getLsbD s _ i hb, Bool.false_and, BitVec.getLsbD_zero]

theorem cellDots_of_cellCount_le {s : State} {i : Nat} (h : s.cellCount ≤ i) : s.cellDots i = 0#8 :=
  BitVec.eq_of_getLsbD_eq fun b hb => by
    rw [cellDots_eq_dotsOf_covered, dotsOf_getLsbD s _ i hb, BitVec.getLsbD_zero, Bool.and_eq_false_iff]
    exact .inl (Bool.eq_false_iff.2 fun covered => absurd (lt_cellCount_of_covered covered hb) (Nat.not_lt.2 h))

/-- One covered pixel more gives its own cell its own bit, if its dot is on, and nothing to any other cell. -/
theorem dotsOf_insert {s : State} {P Q : Nat → Nat → Bool} {x y : Nat} (h : s.covered x y = true)
    (hQ : ∀ x' y', Q x' y' = (P x' y' || decide (x' = x ∧ y' = y))) (i : Nat) :
    s.dotsOf Q i = s.dotsOf P i ||| if i = s.cellIndex x y ∧ s.dotAt x y = true then dotBit x y else 0#8 := by
  refine BitVec.eq_of_getLsbD_eq fun b hb => ?_
  rw [BitVec.getLsbD_or, dotsOf_getLsbD s _ i hb, dotsOf_getLsbD s _ i hb, hQ, Bool.and_or_distrib_right]
  congr 1
  by_cases here : s.bitX i b = x ∧ s.bitY i b = y
  · obtain ⟨own, bit⟩ := (bit_of_covered_iff h hb).1 here
    rw [here.1, here.2, own, bit]
    cases on : s.dotAt x y <;> simp [dotBit_getLsbD x y _ (bitIdx_lt x y)]
  · have other : i = s.cellIndex x y → b ≠ bitIdx x y := fun own bit => here ((bit_of_covered_iff h hb).2 ⟨own, bit⟩)
    rw [decide_eq_false here, Bool.false_and]
    split
    next own => rw [dotBit_getLsbD x y b hb, decide_eq_false (other own.1)]
    next => rw [BitVec.getLsbD_zero]

/-! ### Glyphs (R142) -/

theorem oneBit_getLsbD (d : Nat) {b : Nat} (hb : b < 8) : (1#8 <<< d).getLsbD b = decide (b = d) := by
  have bit := BitVec.getLsbD_twoPow (w := 8) d b
  rw [BitVec.twoPow] at bit
  rw [bit, ← Bool.decide_and]
  exact decide_eq_decide.2 (by omega)

/-- A remapped byte has no bit but those the table names. -/
theorem remapBits_getLsbD_of_notMem (v : Byte) (k : Nat) {ds : List Nat} {b : Nat} (hb : b < 8) (h : b ∉ ds) :
    (remapBits v k ds).getLsbD b = false := by
  induction ds generalizing k with
  | nil => rw [remapBits, BitVec.getLsbD_zero]
  | cons d ds ih =>
    obtain ⟨other, rest⟩ := not_or.1 (List.mem_cons.not.1 h)
    rw [remapBits, BitVec.getLsbD_or, ih (k + 1) rest, Bool.or_false]
    split
    · rw [oneBit_getLsbD d hb, decide_eq_false other]
    · rw [BitVec.getLsbD_zero]

/-- A table without repetition sends bit `k + j` of the byte to the bit named at `j`. -/
theorem remapBits_getLsbD_getElem (v : Byte) (k : Nat) {ds : List Nat} (small : ∀ d ∈ ds, d < 8) (nodup : ds.Nodup)
    {j : Nat} (hj : j < ds.length) : (remapBits v k ds).getLsbD ds[j] = v.getLsbD (k + j) := by
  induction ds generalizing k j with
  | nil => cases hj
  | cons d ds ih =>
    obtain ⟨fresh, nodup⟩ := List.nodup_cons.1 nodup
    obtain ⟨hd, small⟩ := List.forall_mem_cons.1 small
    rw [remapBits, BitVec.getLsbD_or]
    cases j with
    | zero =>
      rw [List.getElem_cons_zero, remapBits_getLsbD_of_notMem v (k + 1) hd fresh, Bool.or_false, Nat.add_zero]
      cases v.getLsbD k <;> simp [hd]
    | succ j =>
      have hj : j < ds.length := Nat.lt_of_succ_lt_succ hj
      have apart : ds[j] ≠ d := fun same => fresh (same ▸ List.getElem_mem hj)
      have shifted := remapBits_getLsbD_of_notMem v k (small _ (List.getElem_mem hj)) (List.mem_singleton.not.2 apart)
      rw [remapBits, remapBits, BitVec.or_zero] at shifted
      rw [List.getElem_cons_succ, shifted, Bool.false_or, ih (k + 1) small nodup hj, Nat.add_right_comm, Nat.add_assoc]

/-- Mask bit `k` is glyph bit `GB[k]`. -/
theorem glyph_getLsbD (m : Byte) {k : Nat} (hk : k < 8) : (glyph m).getLsbD (glyphBitTable.getD k 0) = m.getLsbD k := by
  have bit := remapBits_getLsbD_getElem m 0 (ds := glyphBitTable) (by decide) (by decide) hk
  rw [Nat.zero_add] at bit
  rw [List.getD_eq_getElem _ _ hk, ← bit]
  rfl

/-- A code point is the Braille block over the glyph bits. -/
theorem codePoint_eq_append (m : Byte) : codePoint m = 0x28#24 ++ glyph m := by
  rw [codePoint, BitVec.append_def]
  rfl

theorem codePoint_extractLsb'_high (m : Byte) : (codePoint m).extractLsb' 8 24 = 0x28#24 := by
  rw [codePoint_eq_append]
  exact BitVec.extractLsb'_append_eq_left

theorem codePoint_getLsbD (m : Byte) {k : Nat} (hk : k < 8) :
    (codePoint m).getLsbD (glyphBitTable.getD k 0) = m.getLsbD k := by
  have low : ∀ d ∈ glyphBitTable, d < 8 := by decide
  have small : glyphBitTable.getD k 0 < 8 := by
    rw [List.getD_eq_getElem _ _ hk]
    exact low _ (List.getElem_mem hk)
  rw [codePoint_eq_append, BitVec.getLsbD_append, if_pos small, glyph_getLsbD m hk]

end Sys2Proof.Machine
end

section
/-! The commands of the bit-packer (41_encoder.md R145 to R150): the passes of `CLEAR`, `ENCODE` and `RENDER` over the mask RAM, and
what each command answers. -/

namespace Sys2Proof.Machine

/-! ### The checks before a command (R220, R224) -/

/-- A failed check ends the command with the report of its error. -/
theorem finish_require_false {s : State} {ok : Bool} {c : ErrCause} {f : Unit → Run State} (h : ok = false) :
    finish s ((Run.require ok c).bind f) = .next (s.reported c.code) := by
  rw [h, Run.require_false, Run.bind_raise, finish_raise]
  rfl

/-- A passed check leaves the command to what follows it. -/
theorem finish_require_true {s : State} {ok : Bool} {c : ErrCause} {f : Unit → Run State} (h : ok = true) :
    finish s ((Run.require ok c).bind f) = finish s (f ()) := by
  rw [h, Run.require_true, Run.bind_ok]

/-! ### CLEAR (R145) -/

/-- The masks of `s` below `n` have become 0, and nothing else has changed. -/
structure State.Cleared (s : State) (n : Nat) (t : State) : Prop where
  onlyMask : t = { s with mask := t.mask }
  swept : Memory.Swept s.mask (fun _ => some 0#8) n t.mask

theorem State.Cleared.maskWrite {s t : State} {n : Nat} (h : s.Cleared n t) :
    s.Cleared (n + 1) (maskWrite n 0#8 t) where
  onlyMask := by
    rw [Machine.maskWrite, h.onlyMask]
  swept := h.swept.write rfl

theorem clearBody_zeroes (s : State) :
    ∃ m, clearBody s = .ok { s with mask := m } ∧ Memory.Swept s.mask (fun _ => some 0#8) s.cellCount m := by
  obtain ⟨t, run, cleared⟩ := forUpTo_completes s.Cleared ⟨rfl, .zero⟩
    fun i u _ hu => ⟨_, clearCell_eq i u, hu.maskWrite⟩
  exact ⟨t.mask, cleared.onlyMask ▸ run, cleared.swept⟩

/-! ### ENCODE (R146) -/

/-- The pixel (x, y) is written, and so is the mask its dot goes to, if it is on. -/
def State.encodable (s : State) (x y : Nat) : Prop :=
  (Memory.read s.pix (s.pixelIndex x y)).isSome = true ∧
    (s.dotAt x y = true → (Memory.read s.mask (s.cellIndex x y)).isSome = true)

/-- The pixels in `P` have been encoded into the masks of `s`, and nothing else has changed. -/
structure State.Encoded (s : State) (P : Nat → Nat → Bool) (t : State) : Prop where
  onlyMask : t = { s with mask := t.mask }
  encodable : ∀ x y, P x y = true → s.encodable x y
  read_eq : ∀ i, Memory.read t.mask i = (Memory.read s.mask i).map (· ||| s.dotsOf P i)

section
variable {s t u : State} {P Q : Nat → Nat → Bool} {x y : Nat}

theorem State.Encoded.nothing (s : State) : s.Encoded (fun _ _ => false) s where
  onlyMask := rfl
  encodable _ _ h := nomatch h
  read_eq i := by simp only [dotsOf_empty, BitVec.or_zero, Option.map_id']

theorem State.Encoded.coveredW (h : s.Encoded P t) : t.coveredW = s.coveredW := by
  rw [h.onlyMask]
  rfl

theorem State.Encoded.isSome_mask (h : s.Encoded P t) (i : Nat) :
    (Memory.read t.mask i).isSome = (Memory.read s.mask i).isSome := by
  rw [h.read_eq, Option.isSome_map]

/-- One turn of `ENCODE`, which reads all but the masks as they are in `s`. -/
theorem State.Encoded.encodePixel_eq_ok (h : s.Encoded P t) :
    encodePixel y x t = .ok u ↔ ∃ w, Memory.read s.pix (s.pixelIndex x y) = some w ∧
      ((s.dotOn w = true ∧ ∃ m, Memory.read t.mask (s.cellIndex x y) = some m ∧
          u = Machine.maskWrite (s.cellIndex x y) (m ||| dotBit x y) t) ∨
        (s.dotOn w = false ∧ u = t)) := by
  simp only [Machine.encodePixel_eq_ok, setDot_eq_ok]
  rw [h.onlyMask]
  rfl

/-- A turn of `ENCODE` ends well only at an encodable pixel. -/
theorem State.Encoded.encodable_of_turn (h : s.Encoded P t) (turn : encodePixel y x t = .ok u) : s.encodable x y := by
  obtain ⟨w, hw, dot⟩ := h.encodePixel_eq_ok.1 turn
  refine ⟨Option.isSome_of_eq_some hw, fun on => ?_⟩
  rcases dot with ⟨_, m, hm, _⟩ | ⟨off, _⟩
  · exact h.isSome_mask _ ▸ Option.isSome_of_eq_some hm
  · rw [dotAt_eq_of_read hw, off] at on
    cases on

theorem State.Encoded.turn_completes (h : s.Encoded P t) (ready : s.encodable x y) : ∃ u, encodePixel y x t = .ok u := by
  obtain ⟨w, hw⟩ := Option.isSome_iff_exists.1 ready.1
  cases on : s.dotOn w with
  | true =>
    have written := ready.2 ((dotAt_eq_of_read hw).trans on)
    obtain ⟨m, hm⟩ := Option.isSome_iff_exists.1 (h.isSome_mask _ ▸ written)
    exact ⟨_, h.encodePixel_eq_ok.2 ⟨w, hw, .inl ⟨on, m, hm, rfl⟩⟩⟩
  | false => exact ⟨t, h.encodePixel_eq_ok.2 ⟨w, hw, .inr ⟨on, rfl⟩⟩⟩

/-- One turn of `ENCODE` ORs the dot of its pixel into its cell. -/
theorem State.Encoded.turn (h : s.Encoded P t) (covered : s.covered x y = true)
    (hQ : ∀ x' y', Q x' y' = (P x' y' || decide (x' = x ∧ y' = y))) (run : encodePixel y x t = .ok u) :
    s.Encoded Q u where
  onlyMask := by
    obtain ⟨_, _, ⟨_, m, _, rfl⟩ | ⟨_, rfl⟩⟩ := h.encodePixel_eq_ok.1 run
    · rw [Machine.maskWrite, h.onlyMask]
    · exact h.onlyMask
  encodable x' y' visited := by
    rw [hQ, Bool.or_eq_true, decide_eq_true_iff] at visited
    rcases visited with before | ⟨rfl, rfl⟩
    · exact h.encodable x' y' before
    · exact h.encodable_of_turn run
  read_eq i := by
    obtain ⟨w, hw, ⟨on, m, hm, rfl⟩ | ⟨off, rfl⟩⟩ := h.encodePixel_eq_ok.1 run
    · rw [maskWrite_mask, Memory.read_write, dotsOf_insert covered hQ, dotAt_eq_of_read hw, on]
      split
      next own =>
        obtain ⟨m₀, hm₀, rfl⟩ := Option.map_eq_some_iff.1 (h.read_eq _ ▸ hm)
        rw [own, hm₀, if_pos ⟨rfl, rfl⟩, Option.map_some, BitVec.or_assoc]
      next other => simp only [h.read_eq, other, false_and, if_false, BitVec.or_zero]
    · simp only [h.read_eq, dotsOf_insert covered hQ, dotAt_eq_of_read hw, off, Bool.false_eq_true, and_false, if_false,
        BitVec.or_zero]

end

/-- The pixels of the covered area that `ENCODE` has visited when it comes to (x, y), row by row. -/
def State.visited (s : State) (y x : Nat) (x' y' : Nat) : Bool :=
  decide (x' < s.coveredW ∧ (y' < y ∨ y' = y ∧ x' < x))

section
variable {s t u : State} {x y : Nat}

theorem visited_zero (s : State) : s.visited 0 0 = fun _ _ => false := by
  funext x' y'
  exact decide_eq_false (by omega)

theorem visited_row_end (s : State) (y : Nat) : s.visited y s.coveredW = s.visited (y + 1) 0 := by
  funext x' y'
  exact decide_eq_decide.2 (by omega)

theorem visited_all (s : State) : s.visited s.coveredH 0 = s.covered := by
  funext x' y'
  rw [State.covered, ← Bool.decide_and]
  exact decide_eq_decide.2 (by omega)

theorem visited_succ (hx : x < s.coveredW) (x' y' : Nat) :
    s.visited y (x + 1) x' y' = (s.visited y x x' y' || decide (x' = x ∧ y' = y)) := by
  rw [State.visited, State.visited, ← Bool.decide_or]
  exact decide_eq_decide.2 (by omega)

theorem covered_of_lt (hx : x < s.coveredW) (hy : y < s.coveredH) : s.covered x y = true := by
  rw [State.covered, decide_eq_true hx, decide_eq_true hy, Bool.and_true]

theorem encodeRow_encodes (hy : y < s.coveredH) (h : s.Encoded (s.visited y 0) t) (run : encodeRow y t = .ok u) :
    s.Encoded (s.visited (y + 1) 0) u := by
  rw [encodeRow, h.coveredW] at run
  rw [← visited_row_end]
  exact forUpTo_induct (fun x => s.Encoded (s.visited y x)) h
    (fun x _ _ hx ha => ha.turn (covered_of_lt hx hy) (visited_succ hx)) run

theorem encodeRow_completes (hy : y < s.coveredH) (ready : ∀ x, x < s.coveredW → s.encodable x y)
    (h : s.Encoded (s.visited y 0) t) : ∃ u, encodeRow y t = .ok u := by
  rw [encodeRow, h.coveredW]
  obtain ⟨u, run, _⟩ := forUpTo_completes (fun x => s.Encoded (s.visited y x)) h fun x a hx ha => by
    obtain ⟨b, turn⟩ := ha.turn_completes (ready x hx)
    exact ⟨b, turn, ha.turn (covered_of_lt hx hy) (visited_succ hx) turn⟩
  exact ⟨u, run⟩

theorem encoded_start (s : State) : s.Encoded (s.visited 0 0) s := visited_zero s ▸ .nothing s

/-- The pass of `ENCODE` ends only with the whole covered area encoded. -/
theorem encodeBody_encodes (run : encodeBody s = .ok t) : s.Encoded s.covered t := by
  rw [← visited_all]
  exact forUpTo_induct (fun y => s.Encoded (s.visited y 0)) (encoded_start s) (fun _ _ _ hy => encodeRow_encodes hy) run

theorem encodeBody_completes (pixels : s.coveredWritten) (masks : s.dotsWritable) :
    ∃ t, encodeBody s = .ok t ∧ s.Encoded s.covered t := by
  obtain ⟨t, run, _⟩ := forUpTo_completes (fun y => s.Encoded (s.visited y 0)) (encoded_start s) fun y a hy ha => by
    obtain ⟨b, row⟩ := encodeRow_completes hy (fun x hx => ⟨pixels y hy x hx, masks y hy x hx⟩) ha
    exact ⟨b, row, encodeRow_encodes hy ha row⟩
  exact ⟨t, run, encodeBody_encodes run⟩

theorem encodeBody_stops (unready : ¬ (s.coveredWritten ∧ s.dotsWritable)) : ∃ f, encodeBody s = .stop f := by
  cases run : encodeBody s with
  | ok t =>
    have all := (encodeBody_encodes run).encodable
    exact absurd ⟨fun y hy x hx => (all x y (covered_of_lt hx hy)).1,
      fun y hy x hx => (all x y (covered_of_lt hx hy)).2⟩ unready
  | raise c => exact absurd run (encodeBody_ne_raise s c)
  | stop f => exact ⟨f, rfl⟩

end

/-! ### RENDER (R148) -/

/-- `q` is the pixel RAM of `s` with the buffer sent through the LUT when `CONTRAST_EN` is 1: what the pass of `RENDER` between
`CLEAR` and `ENCODE` leaves. -/
def State.Filtered (s : State) (q : Memory 32) : Prop :=
  Memory.Swept s.pix (fun p => (Memory.read s.pix p).bind s.curved) (if s.contrastEn = true then s.pixelCount else 0) q

/-- `RENDER` has left in every cell the dots its covered pixels decide, with the buffer sent through the LUT when
`CONTRAST_EN` is 1, and nothing else has changed. -/
structure State.Rendered (s t : State) : Prop where
  onlyMaskPix : t = { s with mask := t.mask, pix := t.pix }
  filtered : s.Filtered t.pix
  read_mask : ∀ i, Memory.read t.mask i = if i < s.cellCount then some (t.cellDots i) else Memory.read s.mask i

section
variable {s t : State} {m : Memory 8} {q : Memory 32}

theorem filter_completes (ready : s.renderReady) :
    ∃ q, (if s.contrastEn then contrastBody s else .ok s) = .ok { s with pix := q } ∧ s.Filtered q := by
  cases en : s.contrastEn with
  | true =>
    rw [State.renderReady, if_pos en] at ready
    obtain ⟨t, run, contrasted⟩ := contrastBody_completes ready
    exact ⟨t.pix, contrasted.onlyPix ▸ run, by rw [State.Filtered, if_pos en]; exact contrasted.swept⟩
  | false => exact ⟨s.pix, rfl, by rw [State.Filtered, if_neg (Bool.eq_false_iff.1 en)]; exact .zero⟩

/-- The contrast pass, or its absence, leaves the covered pixels written. -/
theorem isSome_read_covered_of_renderReady (ready : s.renderReady) (filtered : s.Filtered q) {x y : Nat}
    (hx : x < s.coveredW) (hy : y < s.coveredH) : (Memory.read q (s.pixelIndex x y)).isSome = true := by
  cases en : s.contrastEn with
  | true =>
    rw [State.Filtered, if_pos en] at filtered
    have inside : s.pixelIndex x y < s.pixelCount :=
      pixelIndex_lt_pixelCount (lt_of_lt_of_le hx (Nat.min_le_left _ _)) (lt_of_lt_of_le hy (Nat.min_le_left _ _))
    rw [filtered.read_eq, if_pos inside]
    exact filtered.defined _ inside
  | false =>
    rw [State.renderReady, if_neg (Bool.eq_false_iff.1 en)] at ready
    rw [filtered.read_eq, en, if_neg Bool.false_ne_true, if_neg (Nat.not_lt_zero _)]
    exact ready y hy x hx

/-- Over zeroed masks, `ENCODE` leaves in each cell the dots of its covered pixels and nothing else. -/
theorem State.Rendered.of_encoded (zeroed : Memory.Swept s.mask (fun _ => some 0#8) s.cellCount m)
    (filtered : s.Filtered q) (encoded : State.Encoded { s with mask := m, pix := q } s.covered t) : s.Rendered t where
  onlyMaskPix := by rw [encoded.onlyMask]
  filtered := by rwa [encoded.onlyMask]
  read_mask i := by
    have dots : t.cellDots i = State.dotsOf { s with mask := m, pix := q } s.covered i := by
      rw [encoded.onlyMask]
      rfl
    rw [encoded.read_eq, dots, zeroed.read_eq]
    split
    next => rw [Option.map_some, BitVec.zero_or]
    next outside =>
      rw [← dots, cellDots_of_cellCount_le (by rw [encoded.onlyMask]; exact Nat.le_of_not_lt outside)]
      simp only [BitVec.or_zero, Option.map_id']

theorem renderBody_completes (ready : s.renderReady) : ∃ t, renderBody s = .ok t ∧ s.Rendered t := by
  obtain ⟨m, clear, zeroed⟩ := clearBody_zeroes s
  obtain ⟨q, contrast, filtered⟩ := filter_completes (s := { s with mask := m }) ready
  obtain ⟨t, encode, encoded⟩ := encodeBody_completes (s := { s with mask := m, pix := q })
    (fun y hy x hx => isSome_read_covered_of_renderReady ready filtered hx hy)
    (fun y hy x hx _ => by
      have inGrid := (cellIndex_of_covered (covered_of_lt (s := s) hx hy)).1
      exact Option.isSome_of_eq_some ((zeroed.read_eq _).trans (if_pos inGrid)))
  refine ⟨t, ?_, .of_encoded zeroed filtered encoded⟩
  rw [renderBody, clear, Run.bind_ok]
  exact (congrArg (Run.bind · encodeBody) contrast).trans encode

theorem renderBody_stops (unready : ¬ s.renderReady) : ∃ f, renderBody s = .stop f := by
  obtain ⟨m, clear, _⟩ := clearBody_zeroes s
  rw [renderBody, clear, Run.bind_ok]
  cases en : s.contrastEn with
  | true =>
    rw [State.renderReady, if_pos en] at unready
    obtain ⟨f, stops⟩ := contrastBody_stops (s := { s with mask := m }) unready
    exact ⟨f, by rw [if_pos rfl, stops, Run.bind_stop]⟩
  | false =>
    rw [State.renderReady, if_neg (Bool.eq_false_iff.1 en)] at unready
    exact encodeBody_stops (s := { s with mask := m }) fun ready => unready ready.1

theorem exec_render_of_not_geomOk (h : s.geomOk = false) : exec .render s = .next (s.reported 2#4) := finish_require_false h

theorem exec_render_of_geomOk (h : s.geomOk = true) : exec .render s = finish s (renderBody s) := finish_require_true h

theorem exec_render_of_ready (h : s.geomOk = true) (ready : s.renderReady) :
    ∃ t, exec .render s = .next (complete t) ∧ s.Rendered t := by
  obtain ⟨t, run, rendered⟩ := renderBody_completes ready
  exact ⟨t, by rw [exec_render_of_geomOk h, run, finish_ok], rendered⟩

end

/-! ### ENCPIX (R147) -/

section
variable {s : State} {x y : Nat} {w : Word}

/-- Setting a dot, if it is to be set, needs the mask of its cell and changes no other. -/
theorem setDot_if_completes {b : Bool} (written : b = true → (Memory.read s.mask (s.cellIndex x y)).isSome = true) :
    ∃ t, (if b then setDot x y s else .ok s) = .ok t ∧ t = { s with mask := t.mask } ∧
      ∀ k, Memory.read t.mask k = if k = s.cellIndex x y ∧ b = true then
        (Memory.read s.mask (s.cellIndex x y)).map (· ||| dotBit x y) else Memory.read s.mask k := by
  cases b with
  | true =>
    obtain ⟨m, hm⟩ := Option.isSome_iff_exists.1 (written rfl)
    refine ⟨_, setDot_eq_ok.2 ⟨m, hm, rfl⟩, rfl, fun k => ?_⟩
    simp only [maskWrite_mask, Memory.read_write, hm, Option.map_some, and_true]
  | false => exact ⟨s, rfl, rfl, fun k => (if_neg fun h => nomatch h.2).symm⟩

theorem exec_encpix_of_not_geomOk (h : s.geomOk = false) : exec .encpix s = .next (s.reported 2#4) :=
  finish_require_false h

theorem exec_encpix_of_outside (h : s.geomOk = true) (outside : s.pixelCount ≤ s.arg0Index) :
    exec .encpix s = .next (s.reported 3#4) :=
  (finish_require_true h).trans (finish_require_false (decide_eq_false (Nat.not_lt.2 outside)))

theorem exec_encpix_of_unwritten (h : s.geomOk = true) (inside : s.arg0Index < s.pixelCount)
    (unwritten : Memory.read s.pix s.arg0Index = none) : exec .encpix s = .fault (.unwrittenPix s.arg0Index) := by
  rw [exec, execEncpix, finish_require_true h, finish_require_true (decide_eq_true inside), encpixBody,
    pixRead_eq_stop.2 ⟨unwritten, rfl⟩, Run.bind_stop, finish_stop]

theorem exec_encpix_of_written (h : s.geomOk = true) (inside : s.arg0Index < s.pixelCount)
    (hx : x = s.arg0Index % s.width) (hy : y = s.arg0Index / s.width) (written : Memory.read s.pix s.arg0Index = some w) :
    exec .encpix s = finish s ((if s.covered x y && s.dotOn w then setDot x y s else .ok s).bind fun t =>
      .ok (encpixResults (luma w) (s.dotOn w) (s.covered x y) x y (s.cellIndex x y) t)) := by
  rw [exec, execEncpix, finish_require_true h, finish_require_true (decide_eq_true inside), encpixBody,
    pixRead_eq_ok.2 written, Run.bind_ok, hx, hy]

/-- The mask bit and the flag `NOT_COVERED` stand side by side in `RES3` (R147). -/
theorem bitIdx_or_notCovered (x y : Nat) (cov : Bool) :
    BitVec.ofNat 32 (bitIdx x y) ||| notCovered cov = BitVec.ofNat 32 (bitIdx x y + if cov = true then 0 else 2 ^ 31) := by
  cases cov with
  | true => exact BitVec.or_zero
  | false =>
    have small := bitIdx_lt x y
    have beside := Nat.two_pow_add_eq_or_of_lt (show bitIdx x y < 2 ^ 31 by omega) 1
    refine BitVec.eq_of_toNat_eq ?_
    rw [if_neg Bool.false_ne_true, BitVec.toNat_or, toNat_ofNat_of_lt (by omega), toNat_ofNat_of_lt (by omega), Nat.lor_comm,
      Nat.add_comm]
    exact beside.symm

/-- The report of `ENCPIX` over changed masks, field by field (R147). -/
theorem complete_encpixResults_withMask (l : Byte) (on cov : Bool) (x y i : Nat) (m : Memory 8) (s : State) :
    complete (encpixResults l on cov x y i { s with mask := m }) = { s with
      mask := m
      res0 := l.zeroExtend 32
      res1 := boolWord on
      res2 := BitVec.ofNat 32 i
      res3 := BitVec.ofNat 32 (bitIdx x y + if cov = true then 0 else 2 ^ 31)
      done := true
      inFlight := none } := by
  rw [encpixResults, bitIdx_or_notCovered]
  rfl

end

/-! ### GLYPH_ENC and GLYPH_CELL (R149, R150) -/

section
variable {s : State}

theorem arg0Byte_getLsbD (s : State) {k : Nat} (hk : k < 8) : s.arg0Byte.getLsbD k = s.arg0.getLsbD k := by
  rw [State.arg0Byte, BitVec.getLsbD_extractLsb', decide_eq_true hk, Bool.true_and, Nat.zero_add]

theorem exec_glyphCell_of_not_geomOk (h : s.geomOk = false) : exec .glyphCell s = .next (s.reported 2#4) :=
  finish_require_false h

theorem exec_glyphCell_of_outside (h : s.geomOk = true) (outside : s.cellCount ≤ s.arg0Index) :
    exec .glyphCell s = .next (s.reported 3#4) :=
  (finish_require_true h).trans (finish_require_false (decide_eq_false (Nat.not_lt.2 outside)))

theorem exec_glyphCell_of_unwritten (h : s.geomOk = true) (inside : s.arg0Index < s.cellCount)
    (unwritten : Memory.read s.mask s.arg0Index = none) : exec .glyphCell s = .fault (.unwrittenMask s.arg0Index) := by
  rw [exec, execGlyphCell, finish_require_true h, finish_require_true (decide_eq_true inside),
    maskRead_eq_stop.2 ⟨unwritten, rfl⟩, Run.bind_stop, finish_stop]

theorem exec_glyphCell_of_written {m : Byte} (h : s.geomOk = true) (inside : s.arg0Index < s.cellCount)
    (written : Memory.read s.mask s.arg0Index = some m) :
    exec .glyphCell s = .next (complete (writeRes1 (m.zeroExtend 32) (writeRes0 (codePoint m) s))) := by
  rw [exec, execGlyphCell, finish_require_true h, finish_require_true (decide_eq_true inside), maskRead_eq_ok.2 written,
    Run.bind_ok, finish_ok]

end

end Sys2Proof.Machine
end

section
/-! The statements of the family 41_encoder. -/

namespace Sys2Proof.Proofs

open Sys2Proof Sys2Proof.Machine

/-- Settles O32: a covered pixel is one bit of one cell of the grid. -/
theorem coveredPixelsHaveTheirOwnDots : Obligations.CoveredPixelsHaveTheirOwnDots := by
  refine fun s x y x' y' => ⟨rfl, fun h => ?_, fun h h' => ⟨cellIndex_eq_iff h h', fun sameCell sameBit => ?_⟩⟩
  · obtain ⟨⟨_, hx⟩, _, hy⟩ := covered_iff.1 h
    obtain ⟨inGrid, _⟩ := cellIndex_of_covered h
    exact ⟨Nat.div_lt_of_lt_mul hx, Nat.div_lt_of_lt_mul hy, inGrid,
      fun geom => Nat.lt_of_lt_of_le inGrid (geomOk_iff.1 geom).1⟩
  · obtain ⟨hx, hy⟩ := (bit_of_covered_iff h (bitIdx_lt x y)).2 ⟨rfl, rfl⟩
    obtain ⟨hx', hy'⟩ := (bit_of_covered_iff h' (bitIdx_lt x y)).2 ⟨sameCell, sameBit⟩
    exact ⟨hx.symm.trans hx', hy.symm.trans hy'⟩

/-- Settles O42, by the sweep of the mask RAM. -/
theorem clearZeroesTheGrid : Obligations.ClearZeroesTheGrid := by
  refine ⟨rfl, fun s => finish_require_false, fun s geom => ?_⟩
  obtain ⟨m, run, zeroed⟩ := clearBody_zeroes s
  exact ⟨m, by rw [exec, execClear, finish_require_true geom, run, finish_ok]; rfl, zeroed.read_eq⟩

/-- Settles O43, by the pass over the covered area: beyond the grid no cell has a dot to OR. -/
theorem encodeOrsTheDecidedDots : Obligations.EncodeOrsTheDecidedDots := by
  have passed {s : State} (geom : s.geomOk = true) : exec .encode s = finish s (encodeBody s) := finish_require_true geom
  refine ⟨rfl, fun s => finish_require_false, fun s geom unready => ?_, fun s geom pixels masks => ?_⟩
  · obtain ⟨f, stops⟩ := encodeBody_stops unready
    exact ⟨f, by rw [passed geom, stops, finish_stop]⟩
  · obtain ⟨t, run, encoded⟩ := encodeBody_completes pixels masks
    refine ⟨t.mask, ?_, fun i => ?_⟩
    · rw [passed geom, run, finish_ok, encoded.onlyMask]
      rfl
    · rw [encoded.read_eq, ← cellDots_eq_dotsOf_covered]
      split
      next => rfl
      next outside => simp only [cellDots_of_cellCount_le (Nat.le_of_not_lt outside), BitVec.or_zero, Option.map_id']

/-- Settles O44: bit `b` of the packed byte is the dot of the pixel of bit `b`. -/
theorem cellDotsBitByBit : Obligations.CellDotsBitByBit := by
  intro s i b hb
  rw [cellDots_eq_dotsOf_covered, dotsOf_getLsbD s _ i hb, Bool.and_eq_true, dotAt_iff, State.covered, Bool.and_eq_true,
    decide_eq_true_iff, decide_eq_true_iff, and_assoc]
  rfl

/-- Settles O45, by the three passes of `RENDER`. -/
theorem renderEncodesTheContrastedBuffer : Obligations.RenderEncodesTheContrastedBuffer := by
  refine ⟨rfl, fun s => exec_render_of_not_geomOk, fun s geom unready => ?_, fun s geom ready => ?_⟩
  · obtain ⟨f, stops⟩ := renderBody_stops unready
    exact ⟨f, by rw [exec_render_of_geomOk geom, stops, finish_stop]⟩
  · obtain ⟨t, run, rendered⟩ := exec_render_of_ready geom ready
    refine ⟨t.mask, t.pix, ?_, fun p => ?_, fun i => ?_⟩
    · rw [run, rendered.onlyMaskPix]
      rfl
    · refine (rendered.filtered.read_eq p).trans (if_congr ?_ rfl rfl)
      cases s.contrastEn with
      | true => simp
      | false => simp
    · rw [rendered.read_mask, rendered.onlyMaskPix]
      rfl

/-- Settles O46: the step of the encoder, and its report. -/
theorem encpixStepsAndReports : Obligations.EncpixStepsAndReports := by
  refine ⟨rfl, ?_⟩
  rintro s _ x y _ rfl hx hy rfl
  refine ⟨exec_encpix_of_not_geomOk, exec_encpix_of_outside, exec_encpix_of_unwritten, fun w geom inside written => ?_⟩
  have run := exec_encpix_of_written geom inside hx hy written
  refine ⟨fun covered on unwritten => ?_, fun ready => ?_⟩
  · rw [run, covered, on, Bool.and_true, if_pos rfl, setDot_eq_stop.2 ⟨unwritten, rfl⟩, Run.bind_stop, finish_stop]
    rfl
  · obtain ⟨t, turn, onlyMask, read⟩ := setDot_if_completes (s := s) (x := x) (y := y) (b := s.covered x y && s.dotOn w)
      fun h => ready (Bool.and_eq_true_iff.1 h).1 (Bool.and_eq_true_iff.1 h).2
    refine ⟨t.mask, ?_, fun k => (read k).trans (if_congr (and_congr_right fun _ => Bool.and_eq_true_iff) rfl rfl)⟩
    rw [run, turn, Run.bind_ok, finish_ok, onlyMask, complete_encpixResults_withMask]
    rfl

/-- Settles O47, by the bits of a code point. -/
theorem glyphEncRemapsTheMask : Obligations.GlyphEncRemapsTheMask := by
  refine ⟨rfl, fun s => ⟨codePoint s.arg0Byte, rfl, codePoint_extractLsb'_high _, ?_⟩⟩
  have remapped {k : Nat} (hk : k < 8) : (codePoint s.arg0Byte).getLsbD (glyphBitTable.getD k 0) = s.arg0.getLsbD k :=
    (codePoint_getLsbD _ hk).trans (arg0Byte_getLsbD s hk)
  exact ⟨remapped (k := 0) (by decide), remapped (k := 1) (by decide), remapped (k := 2) (by decide),
    remapped (k := 3) (by decide), remapped (k := 4) (by decide), remapped (k := 5) (by decide),
    remapped (k := 6) (by decide), remapped (k := 7) (by decide)⟩

/-- Settles O48, by the checks of `GLYPH_CELL` in their order. -/
theorem glyphCellReadsOneCell : Obligations.GlyphCellReadsOneCell :=
  ⟨rfl, fun _ => ⟨exec_glyphCell_of_not_geomOk, exec_glyphCell_of_outside, fun geom inside =>
    ⟨exec_glyphCell_of_unwritten geom inside, fun _ => exec_glyphCell_of_written geom inside⟩⟩⟩

/-- Settles O49: `GLYPH_CELL` answers the mask that `RENDER` left, bit for bit and through the glyph table. -/
theorem pixelMaskAndGlyphViewsAgree : Obligations.PixelMaskAndGlyphViewsAgree := by
  intro s geom ready i hi
  obtain ⟨t, render, rendered⟩ := exec_render_of_ready geom ready
  have sameGeom : t.geomOk = true := by
    rw [rendered.onlyMaskPix]
    exact geom
  have inGrid : i < t.cellCount := by
    rw [rendered.onlyMaskPix]
    exact hi
  have named : (BitVec.ofNat 32 i).toNat = i := toNat_ofNat_of_lt (Nat.lt_trans hi (cellCount_lt s))
  have inside : (BitVec.ofNat 32 i).toNat < t.cellCount := by rwa [named]
  have written : Memory.read t.mask (BitVec.ofNat 32 i).toNat = some (t.cellDots i) := by
    rw [named, rendered.read_mask, if_pos hi]
  have glyphCell := exec_glyphCell_of_written (s := { complete t with arg0 := BitVec.ofNat 32 i }) sameGeom inside written
  refine ⟨_, _, render, glyphCell, codePoint_extractLsb'_high _, fun dx dy hdx hdy => ?_⟩
  have bit : dx + 2 * dy < 8 := by omega
  have mask : ((t.cellDots i).zeroExtend 32).getLsbD (dx + 2 * dy) = (t.cellDots i).getLsbD (dx + 2 * dy) := by
    rw [BitVec.getLsbD_setWidth, decide_eq_true (show dx + 2 * dy < 32 by omega), Bool.true_and]
  refine ⟨mask.trans ?_, (codePoint_getLsbD _ bit).trans mask.symm⟩
  rw [cellDots_eq_dotsOf_covered, dotsOf_getLsbD t _ i bit, bitX_add t i dy hdx, bitY_add t i dy hdx]
  rfl

end Sys2Proof.Proofs
end

section
/-! The inverse glyph remap (42_decoder.md R170, R175): its bits, that `UNGLYPH` and `GLYPH` undo each other, and code points. -/

namespace Sys2Proof.Machine

/-- Glyph bit `j` is mask bit `GI[j]`. -/
theorem unglyph_getLsbD (g : Byte) {j : Nat} (hj : j < 8) : (unglyph g).getLsbD (maskBitTable.getD j 0) = g.getLsbD j := by
  have bit := remapBits_getLsbD_getElem g 0 (ds := maskBitTable) (by decide) (by decide) hj
  rw [Nat.zero_add] at bit
  rw [List.getD_eq_getElem _ _ hj, ← bit]
  rfl

/-- `GI` and `GB` are inverse permutations of the bit numbers. -/
theorem bitTables_inverse : ∀ j, j < 8 →
    (glyphBitTable.getD j 0 < 8 ∧ maskBitTable.getD (glyphBitTable.getD j 0) 0 = j) ∧
      maskBitTable.getD j 0 < 8 ∧ glyphBitTable.getD (maskBitTable.getD j 0) 0 = j := by
  decide

theorem unglyph_glyph (m : Byte) : unglyph (glyph m) = m :=
  BitVec.eq_of_getLsbD_eq fun k hk => by
    obtain ⟨⟨small, inverse⟩, _⟩ := bitTables_inverse k hk
    calc (unglyph (glyph m)).getLsbD k
        = (unglyph (glyph m)).getLsbD (maskBitTable.getD (glyphBitTable.getD k 0) 0) := by rw [inverse]
      _ = (glyph m).getLsbD (glyphBitTable.getD k 0) := unglyph_getLsbD _ small
      _ = m.getLsbD k := glyph_getLsbD m hk

theorem glyph_unglyph (g : Byte) : glyph (unglyph g) = g :=
  BitVec.eq_of_getLsbD_eq fun j hj => by
    obtain ⟨_, small, inverse⟩ := bitTables_inverse j hj
    calc (glyph (unglyph g)).getLsbD j
        = (glyph (unglyph g)).getLsbD (glyphBitTable.getD (maskBitTable.getD j 0) 0) := by rw [inverse]
      _ = (unglyph g).getLsbD (maskBitTable.getD j 0) := glyph_getLsbD _ small
      _ = g.getLsbD j := unglyph_getLsbD g hj

/-- A byte as a result is the byte under 24 zeros. -/
theorem zeroExtend_eq_append (m : Byte) : m.zeroExtend 32 = 0#24 ++ m := by
  rw [BitVec.append_def]
  simp

/-- The Braille block is the code points from 0x2800 to 0x28FF (R175). -/
theorem extractLsb'_high_eq_iff (cp : Word) : cp.extractLsb' 8 24 = 0x28#24 ↔ 0x2800 ≤ cp.toNat ∧ cp.toNat ≤ 0x28FF := by
  rw [← BitVec.toNat_inj, BitVec.extractLsb'_toNat, Nat.shiftRight_eq_div_pow, BitVec.toNat_ofNat]
  have small := cp.isLt
  omega

end Sys2Proof.Machine
end

section
/-! The unpacker's passes over the pixel RAM (42_decoder.md R173, R174): the dots of the grid in the order in which `UNPACKALL`
draws them, and what each command leaves in the buffer. -/

namespace Sys2Proof.Machine

/-! ### The dots of the grid, numbered -/

/-- The address of a pixel divides into its column and row (R66). -/
theorem pixelIndex_mod_div {s : State} {x : Nat} (y : Nat) (hx : x < s.width) :
    s.pixelIndex x y % s.width = x ∧ s.pixelIndex x y / s.width = y := by
  have address : s.pixelIndex x y = x + s.width * y := by
    rw [Nat.add_comm, Nat.mul_comm]
    rfl
  rw [address, Nat.add_mul_mod_self_left, Nat.add_mul_div_left _ _ (Nat.zero_lt_of_lt hx), Nat.mod_eq_of_lt hx,
    Nat.div_eq_of_lt hx, Nat.zero_add]
  exact ⟨rfl, rfl⟩

/-- No two pixels of the buffer have the same address. -/
theorem pixelIndex_inj {s : State} {x y x' y' : Nat} (hx : x < s.width) (hx' : x' < s.width) :
    s.pixelIndex x y = s.pixelIndex x' y' ↔ x = x' ∧ y = y' := by
  obtain ⟨column, row⟩ := pixelIndex_mod_div y hx
  obtain ⟨column', row'⟩ := pixelIndex_mod_div y' hx'
  constructor
  · intro same
    exact ⟨column.symm.trans ((congrArg (· % s.width) same).trans column'),
      row.symm.trans ((congrArg (· / s.width) same).trans row')⟩
  · rintro ⟨rfl, rfl⟩
    rfl

/-- The number of the dot of pixel (x, y) when all dots of the grid are counted cell by cell, and bit by bit in each cell. -/
def State.dotNumber (s : State) (x y : Nat) : Nat := 8 * s.cellIndex x y + bitIdx x y

section
variable {s : State} {x y i b : Nat}

/-- The cell of a pixel in the columns of the grid: its index divides into the pixel's cell row and column (R144). -/
theorem cellIndex_eq_iff_of_column (hx : x < 2 * s.cols) : s.cellIndex x y = i ↔ x / 2 = i % s.cols ∧ y / 4 = i / s.cols := by
  have column : x / 2 < s.cols := Nat.div_lt_of_lt_mul hx
  have index : s.cellIndex x y = y / 4 * s.cols + x / 2 := rfl
  rw [index]
  constructor
  · rintro rfl
    rw [Nat.mul_add_mod', Nat.mod_eq_of_lt column, Nat.mul_comm, Nat.mul_add_div (Nat.zero_lt_of_lt column),
      Nat.div_eq_of_lt column]
    exact ⟨rfl, rfl⟩
  · rintro ⟨hcolumn, hrow⟩
    rw [hcolumn, hrow, Nat.div_add_mod']

/-- Each dot number is one bit of one cell. -/
theorem dotNumber_eq_iff (hx : x < 2 * s.cols) (hb : b < 8) :
    s.dotNumber x y = 8 * i + b ↔ s.bitX i b = x ∧ s.bitY i b = y := by
  have bit : bitIdx x y < 8 := bitIdx_lt x y
  have split : s.dotNumber x y = 8 * i + b ↔ s.cellIndex x y = i ∧ bitIdx x y = b := by
    unfold State.dotNumber
    omega
  rw [split, cellIndex_eq_iff_of_column hx]
  unfold State.bitX State.bitY bitIdx
  omega

/-- The dots of cell `i` are those of its 2×4 block of pixels. -/
theorem dotNumber_cell_iff (cols : 0 < s.cols) :
    (x < 2 * s.cols ∧ 8 * i ≤ s.dotNumber x y ∧ s.dotNumber x y < 8 * (i + 1)) ↔
      x / 2 = i % s.cols ∧ y / 4 = i / s.cols := by
  have bit : bitIdx x y < 8 := bitIdx_lt x y
  have own : (8 * i ≤ s.dotNumber x y ∧ s.dotNumber x y < 8 * (i + 1)) ↔ s.cellIndex x y = i := by
    unfold State.dotNumber
    omega
  rw [own]
  constructor
  · rintro ⟨hx, h⟩
    exact (cellIndex_eq_iff_of_column hx).1 h
  · intro block
    have column : i % s.cols < s.cols := Nat.mod_lt i cols
    have hx : x < 2 * s.cols := by omega
    exact ⟨hx, (cellIndex_eq_iff_of_column hx).2 block⟩

/-- In the buffer, the dots of all cells are the covered area (R143, R174). -/
theorem dotNumber_grid_iff (hx : x < s.width) (hy : y < s.height) :
    (x < 2 * s.cols ∧ 0 ≤ s.dotNumber x y ∧ s.dotNumber x y < 8 * s.cellCount) ↔ s.covered x y = true := by
  have bit : bitIdx x y < 8 := bitIdx_lt x y
  have inGrid : s.dotNumber x y < 8 * s.cellCount ↔ s.cellIndex x y < s.cellCount := by
    unfold State.dotNumber
    omega
  rw [inGrid]
  constructor
  · rintro ⟨column, _, cell⟩
    obtain ⟨_, row⟩ := (cellIndex_eq_iff_of_column (y := y) column).1 rfl
    have inside : s.cellIndex x y / s.cols < s.rows := Nat.div_lt_of_lt_mul cell
    exact covered_iff.2 ⟨⟨hx, column⟩, hy, by omega⟩
  · intro h
    exact ⟨(covered_iff.1 h).1.2, Nat.zero_le _, (cellIndex_of_covered h).1⟩

end

/-! ### Drawing the dots -/

/-- The word of an unpacked dot (R176). -/
def toneOf (on : Bool) : Word := if on = true then white else black

theorem dotPixel_eq_toneOf (m : Byte) (dx dy : Nat) : dotPixel m dx dy = toneOf (m.getLsbD (dx + 2 * dy)) := rfl

/-- The word that the mask of its cell gives the pixel (x, y), or none if the mask is unwritten (R173, R176). -/
def State.tone (s : State) (x y : Nat) : Option Word :=
  (Memory.read s.mask (s.cellIndex x y)).map fun m => toneOf (m.getLsbD (bitIdx x y))

/-- The pixels of the dots numbered `a` to `n - 1` that lie in the buffer have been drawn from the masks of `s`, and nothing else
has changed. -/
structure State.Drawn (s : State) (a n : Nat) (t : State) : Prop where
  onlyPix : t = { s with pix := t.pix }
  read_inside : ∀ x y, x < s.width → y < s.height → Memory.read t.pix (s.pixelIndex x y) =
    if x < 2 * s.cols ∧ a ≤ s.dotNumber x y ∧ s.dotNumber x y < n then s.tone x y else Memory.read s.pix (s.pixelIndex x y)
  read_beyond : ∀ p, s.pixelCount ≤ p → Memory.read t.pix p = Memory.read s.pix p

section
variable {s t : State} {a n i b : Nat} {m : Byte}

theorem State.Drawn.refl (s : State) (a : Nat) : s.Drawn a a s where
  onlyPix := rfl
  read_inside _ _ _ _ := (if_neg (by omega)).symm
  read_beyond _ _ := rfl

theorem State.Drawn.mask (h : s.Drawn a n t) : t.mask = s.mask := by rw [h.onlyPix]

theorem State.Drawn.cols (h : s.Drawn a n t) : t.cols = s.cols := by
  rw [h.onlyPix]
  rfl

theorem bitX_lt (inGrid : i < s.cellCount) (b : Nat) : s.bitX i b < 2 * s.cols := by
  have cols : 0 < s.cols := Nat.pos_of_mul_pos_right (Nat.zero_lt_of_lt inGrid)
  have column : i % s.cols < s.cols := Nat.mod_lt i cols
  unfold State.bitX
  omega

/-- The dot's own pixel takes the word of its mask bit. -/
theorem tone_of_bit (inGrid : i < s.cellCount) (hb : b < 8) (hm : Memory.read s.mask i = some m) :
    s.tone (s.bitX i b) (s.bitY i b) = some (toneOf (m.getLsbD b)) := by
  have own := (dotNumber_eq_iff (bitX_lt inGrid b) hb).2 ⟨rfl, rfl⟩
  have bit := bitIdx_lt (s.bitX i b) (s.bitY i b)
  unfold State.dotNumber at own
  have cell : s.cellIndex (s.bitX i b) (s.bitY i b) = i := by omega
  have index : bitIdx (s.bitX i b) (s.bitY i b) = b := by omega
  rw [State.tone, cell, index, hm, Option.map_some]

/-- A pixel that is not the next dot's is drawn after the next dot exactly if it was drawn before it. -/
theorem State.Drawn.read_other (h : s.Drawn a (8 * i + b) t) (hb : b < 8) {x y : Nat} (hx : x < s.width) (hy : y < s.height)
    (other : ¬ (s.bitX i b = x ∧ s.bitY i b = y)) : Memory.read t.pix (s.pixelIndex x y) =
      if x < 2 * s.cols ∧ a ≤ s.dotNumber x y ∧ s.dotNumber x y < 8 * i + (b + 1) then s.tone x y
      else Memory.read s.pix (s.pixelIndex x y) := by
  refine (h.read_inside x y hx hy).trans (if_congr (and_congr_right fun column => and_congr_right fun _ => ?_) rfl rfl)
  have ne := (dotNumber_eq_iff column hb).not.2 other
  omega

/-- Drawing one dot more: its pixel, if it lies in the buffer. -/
theorem State.Drawn.dot (h : s.Drawn a (8 * i + b) t) (first : a ≤ 8 * i) (inGrid : i < s.cellCount) (hb : b < 8)
    (hm : Memory.read s.mask i = some m) :
    s.Drawn a (8 * i + (b + 1)) (if s.bitX i b < s.width ∧ s.bitY i b < s.height then
      pixWrite (s.pixelIndex (s.bitX i b) (s.bitY i b)) (toneOf (m.getLsbD b)) t else t) := by
  split
  next inside =>
    refine ⟨by rw [pixWrite, h.onlyPix], fun x y hx hy => ?_, fun p hp => ?_⟩
    · rw [pixWrite_pix, Memory.read_write]
      by_cases here : s.bitX i b = x ∧ s.bitY i b = y
      · obtain ⟨rfl, rfl⟩ := here
        have own := (dotNumber_eq_iff (bitX_lt inGrid b) hb).2 ⟨rfl, rfl⟩
        rw [if_pos rfl, if_pos ⟨bitX_lt inGrid b, by omega⟩, tone_of_bit inGrid hb hm]
      · rw [if_neg fun same => here ((pixelIndex_inj inside.1 hx).1 same.symm)]
        exact h.read_other hb hx hy here
    · have below := pixelIndex_lt_pixelCount inside.1 inside.2
      rw [pixWrite_pix, Memory.read_write_other _ _ (by omega)]
      exact h.read_beyond p hp
  next outside =>
    refine ⟨h.onlyPix, fun x y hx hy => h.read_other hb hx hy ?_, h.read_beyond⟩
    rintro ⟨rfl, rfl⟩
    exact outside ⟨hx, hy⟩

/-- One turn of `UNPACK` draws one dot (R173). -/
theorem State.Drawn.unpackDot_eq (h : s.Drawn a n t) {dx : Nat} (dy : Nat) (hdx : dx < 2) :
    unpackDot m (i % s.cols) (i / s.cols) dy dx t = .ok
      (if s.bitX i (dx + 2 * dy) < s.width ∧ s.bitY i (dx + 2 * dy) < s.height then
        pixWrite (s.pixelIndex (s.bitX i (dx + 2 * dy)) (s.bitY i (dx + 2 * dy))) (toneOf (m.getLsbD (dx + 2 * dy))) t else t) := by
  rw [Machine.unpackDot_eq, bitX_add s i dy hdx, bitY_add s i dy hdx, dotPixel_eq_toneOf, h.onlyPix]
  rfl

/-- One row of a cell is its next two dots. -/
theorem unpackRow_draws {dy : Nat} (h : s.Drawn a (8 * i + 2 * dy) t) (first : a ≤ 8 * i) (inGrid : i < s.cellCount)
    (hdy : dy < 4) (hm : Memory.read s.mask i = some m) :
    ∃ u, unpackRow m (i % s.cols) (i / s.cols) dy t = .ok u ∧ s.Drawn a (8 * i + 2 * (dy + 1)) u := by
  obtain ⟨u, run, drawn⟩ := forUpTo_completes (n := 2) (body := unpackDot m (i % s.cols) (i / s.cols) dy)
    (fun dx => s.Drawn a (8 * i + (dx + 2 * dy))) (by rwa [Nat.zero_add]) fun dx _ hdx hu => by
      have next := hu.dot first inGrid (by omega) hm
      rw [Nat.add_right_comm] at next
      exact ⟨_, hu.unpackDot_eq dy hdx, next⟩
  exact ⟨u, run, by rwa [show 2 * (dy + 1) = 2 + 2 * dy by omega]⟩

/-- The body of `UNPACK` draws the eight dots of its cell. -/
theorem unpackCell_draws (h : s.Drawn a (8 * i) t) (first : a ≤ 8 * i) (inGrid : i < s.cellCount)
    (hm : Memory.read s.mask i = some m) : ∃ u, unpackCell i t = .ok u ∧ s.Drawn a (8 * (i + 1)) u := by
  rw [unpackCell, maskRead_eq_ok.2 (h.mask ▸ hm), Run.bind_ok, h.cols]
  exact forUpTo_completes (n := 4) (fun dy => s.Drawn a (8 * i + 2 * dy)) h fun dy _ hdy hu =>
    unpackRow_draws hu first inGrid hdy hm

/-- The pass of `UNPACKALL` draws all dots of the grid. -/
theorem unpackGrid_draws (written : s.gridWritten) :
    ∃ t, forUpTo s.cellCount unpackCell s = .ok t ∧ s.Drawn 0 (8 * s.cellCount) t :=
  forUpTo_completes (fun i => s.Drawn 0 (8 * i)) (.refl s 0) fun i _ hi hu => by
    obtain ⟨m, hm⟩ := Option.isSome_iff_exists.1 (written i hi)
    exact unpackCell_draws hu (Nat.zero_le _) hi hm

/-- The body of `UNPACK` writes no mask, and ends well only if its cell's mask is written. -/
theorem mask_of_unpackCell {u : State} (run : unpackCell i t = .ok u) :
    u.mask = t.mask ∧ (Memory.read t.mask i).isSome = true := by
  obtain ⟨m, read, _⟩ := Run.bind_eq_ok.1 run
  have frame := unpackCell_writesOnly (ws := [.pix]) (by simp) i (.refl _ t) u run
  exact ⟨frame .mask (by simp), Option.isSome_of_eq_some (maskRead_eq_ok.1 read)⟩

/-- The pass of `UNPACKALL` stops at an unwritten mask of the grid. -/
theorem unpackGrid_stops (unwritten : ¬ s.gridWritten) : ∃ f, forUpTo s.cellCount unpackCell s = .stop f := by
  cases run : forUpTo s.cellCount unpackCell s with
  | ok t =>
    obtain ⟨_, written⟩ := forUpTo_induct
      (fun n u => u.mask = s.mask ∧ ∀ i, i < n → (Memory.read s.mask i).isSome = true)
      ⟨rfl, fun _ h => absurd h (Nat.not_lt_zero _)⟩ (fun n u v _ hu turn => by
        obtain ⟨same, before⟩ := hu
        obtain ⟨kept, own⟩ := mask_of_unpackCell turn
        refine ⟨kept.trans same, fun i hi => ?_⟩
        rcases Nat.lt_succ_iff_lt_or_eq.1 hi with hi | rfl
        · exact before i hi
        · exact same ▸ own) run
    exact absurd written unwritten
  | raise c => exact absurd run (forUpTo_ne_raise fun i u => unpackCell_ne_raise i u c)
  | stop f => exact ⟨f, rfl⟩

end

/-! ### SETGLYPH, UNPACK and UNPACKALL (R172 to R174) -/

section
variable {s : State}

/-- A command on one cell of the grid reports `OOB` for a cell beyond it, once its capacity check has passed (R220). -/
theorem finish_checks_of_outside {f : Unit → Run State} (h : s.geomOk = true) (outside : s.cellCount ≤ s.arg0Index) :
    finish s ((Run.require s.geomOk .cfg).bind fun _ => (Run.require (decide (s.arg0Index < s.cellCount)) .oob).bind f) =
      .next (s.reported 3#4) :=
  (finish_require_true h).trans (finish_require_false (decide_eq_false (Nat.not_lt.2 outside)))

theorem exec_setglyph_of_inside (h : s.geomOk = true) (inside : s.arg0Index < s.cellCount) :
    exec .setglyph s = .next (complete (writeRes1 (validBraille s.arg1) (writeRes0 ((maskOfCodePoint s.arg1).zeroExtend 32)
      (maskWrite s.arg0Index (maskOfCodePoint s.arg1) s)))) := by
  rw [exec, execSetglyph, finish_require_true h, finish_require_true (decide_eq_true inside), finish_ok]

theorem exec_unpack_of_inside (h : s.geomOk = true) (inside : s.arg0Index < s.cellCount) :
    exec .unpack s = finish s (unpackCell s.arg0Index s) :=
  (finish_require_true h).trans (finish_require_true (decide_eq_true inside))

theorem exec_unpack_of_unwritten (h : s.geomOk = true) (inside : s.arg0Index < s.cellCount)
    (unwritten : Memory.read s.mask s.arg0Index = none) : exec .unpack s = .fault (.unwrittenMask s.arg0Index) := by
  rw [exec_unpack_of_inside h inside, unpackCell, maskRead_eq_stop.2 ⟨unwritten, rfl⟩, Run.bind_stop, finish_stop]

theorem exec_unpackall_of_geomOk (h : s.geomOk = true) :
    exec .unpackall s = finish s (forUpTo s.cellCount unpackCell s) :=
  finish_require_true h

theorem exec_unpackall_of_gridWritten (h : s.geomOk = true) (written : s.gridWritten) :
    ∃ t, exec .unpackall s = .next (complete t) ∧ s.Drawn 0 (8 * s.cellCount) t := by
  obtain ⟨t, run, drawn⟩ := unpackGrid_draws written
  exact ⟨t, by rw [exec_unpackall_of_geomOk h, run, finish_ok], drawn⟩

/-- A covered pixel, after `UNPACKALL`, is the word of its bit in its cell's mask. -/
theorem State.Drawn.read_covered {t : State} (h : s.Drawn 0 (8 * s.cellCount) t) {x y : Nat} (covered : s.covered x y = true) :
    Memory.read t.pix (s.pixelIndex x y) = s.tone x y := by
  obtain ⟨⟨hx, _⟩, hy, _⟩ := covered_iff.1 covered
  rw [h.read_inside x y hx hy, if_pos ((dotNumber_grid_iff hx hy).2 covered)]

end

end Sys2Proof.Machine
end

section
/-! The round trip `RENDER`, `UNPACKALL`, `RENDER` without contrast (42_decoder.md R177). -/

namespace Sys2Proof.Machine

/-! ### RENDER without contrast -/

/-- `t` is `s` after a `RENDER` without contrast: every pixel as before, and the dots of each cell's covered pixels in its mask. -/
structure State.PlainRendered (s t : State) : Prop where
  onlyMaskPix : t = complete { s with mask := t.mask, pix := t.pix }
  read_pix : ∀ p, Memory.read t.pix p = Memory.read s.pix p
  read_mask : ∀ i, Memory.read t.mask i = if i < s.cellCount then some (s.cellDots i) else Memory.read s.mask i

/-- The dots of a cell depend on the words of the pixels alone, not on the form of the memory. -/
theorem cellDots_withMaskPix {s : State} {m : Memory 8} {q : Memory 32} (same : ∀ p, Memory.read q p = Memory.read s.pix p)
    (i : Nat) : State.cellDots { s with mask := m, pix := q } i = s.cellDots i := by
  have dots (x y : Nat) : State.dotAt { s with mask := m, pix := q } x y = s.dotAt x y := by
    unfold State.dotAt
    rw [same]
    rfl
  refine BitVec.eq_of_getLsbD_eq fun b hb => ?_
  rw [cellDots_eq_dotsOf_covered, cellDots_eq_dotsOf_covered, dotsOf_getLsbD _ _ i hb, dotsOf_getLsbD _ _ i hb, dots]
  rfl

theorem exec_render_plain {s : State} (geom : s.geomOk = true) (plain : s.contrastEn = false) (written : s.coveredWritten) :
    ∃ t, exec .render s = .next t ∧ s.PlainRendered t := by
  have off : ¬ s.contrastEn = true := Bool.eq_false_iff.1 plain
  have ready : s.renderReady := by rwa [State.renderReady, if_neg off]
  obtain ⟨t, run, rendered⟩ := exec_render_of_ready geom ready
  have kept (p : Nat) : Memory.read t.pix p = Memory.read s.pix p := by
    rw [rendered.filtered.read_eq, if_neg off, if_neg (Nat.not_lt_zero p)]
  have dots (i : Nat) : t.cellDots i = s.cellDots i := by
    rw [rendered.onlyMaskPix]
    exact cellDots_withMaskPix kept i
  refine ⟨complete t, run, congrArg complete rendered.onlyMaskPix, kept, fun i => ?_⟩
  rw [complete_mask, rendered.read_mask, dots]

/-! ### The second masks -/

/-- The dots that a cell's covered pixels decide once they have been drawn from the cell's own dots. -/
def State.redrawnDots (s : State) (i : Nat) : Byte :=
  packBits (fun b => s.covered (s.bitX i b) (s.bitY i b) && s.dotOn (toneOf ((s.cellDots i).getLsbD b))) 8

section
variable {s t u : State} {i b : Nat}

theorem redrawnDots_getLsbD (s : State) (i : Nat) (hb : b < 8) : (s.redrawnDots i).getLsbD b =
    (s.covered (s.bitX i b) (s.bitY i b) && s.dotOn (toneOf ((s.cellDots i).getLsbD b))) := by
  rw [State.redrawnDots, packBits_getLsbD _ _ _ hb, decide_eq_true hb, Bool.true_and]

/-- Outside the covered area a cell has no dots. -/
theorem cellDots_getLsbD_of_not_covered (h : ¬ s.covered (s.bitX i b) (s.bitY i b) = true) (hb : b < 8) :
    (s.cellDots i).getLsbD b = false := by
  rw [cellDots_eq_dotsOf_covered, dotsOf_getLsbD s _ i hb, Bool.eq_false_iff.2 h, Bool.false_and]

theorem State.PlainRendered.gridWritten (h : s.PlainRendered t) : t.gridWritten := by
  intro i hi
  have inGrid : i < s.cellCount := by
    rw [h.onlyMaskPix] at hi
    exact hi
  rw [h.read_mask, if_pos inGrid]
  rfl

/-- After `RENDER` and `UNPACKALL`, a covered pixel is the word of its dot in the first masks. -/
theorem State.PlainRendered.read_drawn (h : s.PlainRendered t) (drawn : t.Drawn 0 (8 * t.cellCount) u) {x y : Nat}
    (covered : s.covered x y = true) :
    Memory.read u.pix (s.pixelIndex x y) = some (toneOf ((s.cellDots (s.cellIndex x y)).getLsbD (bitIdx x y))) := by
  have same : t.covered x y = true := by
    rw [h.onlyMaskPix]
    exact covered
  have read := drawn.read_covered same
  rw [State.tone, show t.cellIndex x y = s.cellIndex x y by rw [h.onlyMaskPix]; rfl,
    show t.pixelIndex x y = s.pixelIndex x y by rw [h.onlyMaskPix]; rfl, h.read_mask,
    if_pos (cellIndex_of_covered covered).1, Option.map_some] at read
  exact read

theorem State.PlainRendered.onlyMaskPix_drawn (h : s.PlainRendered t) (drawn : t.Drawn 0 (8 * t.cellCount) u) :
    complete u = complete { s with mask := t.mask, pix := u.pix } := by
  rw [drawn.onlyPix, h.onlyMaskPix]
  rfl

/-- The dots of the drawn buffer. -/
theorem State.PlainRendered.cellDots_drawn (h : s.PlainRendered t) (drawn : t.Drawn 0 (8 * t.cellCount) u) (i : Nat) :
    (complete u).cellDots i = s.redrawnDots i := by
  refine BitVec.eq_of_getLsbD_eq fun b hb => ?_
  rw [cellDots_eq_dotsOf_covered, dotsOf_getLsbD _ _ i hb, redrawnDots_getLsbD s i hb, h.onlyMaskPix_drawn drawn]
  change (s.covered (s.bitX i b) (s.bitY i b) && _) = _
  cases covered : s.covered (s.bitX i b) (s.bitY i b) with
  | false => rfl
  | true =>
    obtain ⟨cell, bit⟩ := (bit_of_covered_iff covered hb).1 ⟨rfl, rfl⟩
    have read := h.read_drawn drawn covered
    rw [← cell, ← bit] at read
    exact congrArg (true && ·) (dotAt_eq_of_read (s := complete { s with mask := t.mask, pix := u.pix }) read)

/-- `RENDER`, `UNPACKALL`, `RENDER` without contrast: the masks after the first and after the second `RENDER`. -/
theorem render_unpackall_render (geom : s.geomOk = true) (plain : s.contrastEn = false) (written : s.coveredWritten) :
    ∃ t u v, exec .render s = .next t ∧ exec .unpackall t = .next u ∧ exec .render u = .next v ∧
      (∀ i, Memory.read t.mask i = if i < s.cellCount then some (s.cellDots i) else Memory.read s.mask i) ∧
      ∀ i, Memory.read v.mask i = if i < s.cellCount then some (s.redrawnDots i) else Memory.read s.mask i := by
  obtain ⟨t, first, rendered⟩ := exec_render_plain geom plain written
  have geomT : t.geomOk = true := by
    rw [rendered.onlyMaskPix]
    exact geom
  obtain ⟨u, unpack, drawn⟩ := exec_unpackall_of_gridWritten geomT rendered.gridWritten
  have geomU : (complete u).geomOk = true := by
    rw [rendered.onlyMaskPix_drawn drawn]
    exact geom
  have plainU : (complete u).contrastEn = false := by
    rw [rendered.onlyMaskPix_drawn drawn]
    exact plain
  have cellsU : (complete u).cellCount = s.cellCount := by
    rw [rendered.onlyMaskPix_drawn drawn]
    rfl
  have writtenU : (complete u).coveredWritten := by
    rw [rendered.onlyMaskPix_drawn drawn]
    exact fun y hy x hx => Option.isSome_of_eq_some (rendered.read_drawn drawn (covered_of_lt hx hy))
  obtain ⟨v, second, rerendered⟩ := exec_render_plain geomU plainU writtenU
  refine ⟨t, complete u, v, first, unpack, second, rendered.read_mask, fun i => ?_⟩
  rw [rerendered.read_mask, rendered.cellDots_drawn drawn, cellsU, complete_mask, drawn.mask]
  split
  next => rfl
  next outside => rw [rendered.read_mask, if_neg outside]

/-! ### White and black pixels (R113, R176) -/

theorem luma_white : luma white = 255#8 := by decide

theorem luma_black : luma black = 0#8 := by decide

/-- With `INVERT` = 0 and `THRESH` at least 1, an unpacked dot is on exactly if it was on. -/
theorem dotOn_toneOf (upright : s.invert = false) (positive : 1 ≤ s.thresh.toNat) (on : Bool) : s.dotOn (toneOf on) = on := by
  cases on with
  | true =>
    rw [State.dotOn, toneOf, if_pos rfl, luma_white, dot_iff, if_neg (Bool.eq_false_iff.1 upright)]
    exact Nat.le_of_lt_succ s.thresh.isLt
  | false =>
    rw [State.dotOn, toneOf, if_neg Bool.false_ne_true, luma_black, Bool.eq_false_iff, ne_eq, dot_iff,
      if_neg (Bool.eq_false_iff.1 upright)]
    exact Nat.not_le.2 positive

/-- With `INVERT` = 1 and `THRESH` below 255, an unpacked dot is on exactly if it was off. -/
theorem dotOn_toneOf_inverted (inverted : s.invert = true) (small : s.thresh.toNat < 255) (on : Bool) :
    s.dotOn (toneOf on) = !on := by
  cases on with
  | true =>
    rw [State.dotOn, toneOf, if_pos rfl, luma_white, Bool.not_true, Bool.eq_false_iff, ne_eq, dot_iff, if_pos inverted]
    exact Nat.not_le.2 small
  | false =>
    rw [State.dotOn, toneOf, if_neg Bool.false_ne_true, luma_black, Bool.not_false, dot_iff, if_pos inverted]
    exact Nat.zero_le _

/-- With `INVERT` = 0 and `THRESH` at least 1, the second masks are the first. -/
theorem redrawnDots_eq_cellDots (upright : s.invert = false) (positive : 1 ≤ s.thresh.toNat) (i : Nat) :
    s.redrawnDots i = s.cellDots i := by
  refine BitVec.eq_of_getLsbD_eq fun b hb => ?_
  rw [redrawnDots_getLsbD s i hb, dotOn_toneOf upright positive]
  by_cases covered : s.covered (s.bitX i b) (s.bitY i b) = true
  · rw [covered, Bool.true_and]
  · rw [cellDots_getLsbD_of_not_covered covered hb, Bool.and_false]

theorem coveredWritten_of_coveredPure (tones : s.coveredPure) : s.coveredWritten := fun y hy x hx => by
  obtain ⟨w, hw, _⟩ := (Option.any_eq_true _ _).1 (tones y hy x hx)
  exact Option.isSome_of_eq_some hw

end

end Sys2Proof.Machine
end

section
/-! The statements of the family 42_decoder. -/

namespace Sys2Proof.Proofs

open Sys2Proof Sys2Proof.Machine

/-- Settles O50: the two bit tables are inverse permutations. -/
theorem glyphRemapIsABijection : Obligations.GlyphRemapIsABijection :=
  ⟨fun g _ => unglyph_getLsbD g, unglyph_glyph, glyph_unglyph⟩

/-- Settles O51: the result is the byte that `GLYPH` takes back to the low byte of the code point. -/
theorem glyphDecIsLenient : Obligations.GlyphDecIsLenient := by
  refine ⟨rfl, fun s => ⟨(maskOfCodePoint s.arg0).zeroExtend 32, ?_, ?_, ?_⟩⟩
  · simp only [← extractLsb'_high_eq_iff]
    rfl
  · rw [zeroExtend_eq_append]
    exact BitVec.extractLsb'_append_eq_left
  · rw [zeroExtend_eq_append, BitVec.extractLsb'_append_eq_right, maskOfCodePoint, glyph_unglyph]

/-- Settles O52, by the checks of `SETGLYPH` in their order and its one write. -/
theorem setglyphStoresOneMask : Obligations.SetglyphStoresOneMask :=
  ⟨rfl, fun s => ⟨finish_require_false,
    finish_checks_of_outside,
    fun geom inside => ⟨Memory.write s.mask s.arg0Index (maskOfCodePoint s.arg1), exec_setglyph_of_inside geom inside,
      fun k => Memory.read_write s.mask s.arg0Index k _⟩⟩⟩

/-- Settles O53: the eight dots of the cell are drawn, and its block is their pixels. -/
theorem unpackWritesOneBlock : Obligations.UnpackWritesOneBlock := by
  refine ⟨rfl, fun s => ⟨finish_require_false, finish_checks_of_outside, fun geom inside =>
    ⟨exec_unpack_of_unwritten geom inside, fun m hm => ?_⟩⟩⟩
  obtain ⟨t, run, drawn⟩ := unpackCell_draws (.refl s (8 * s.arg0Index)) (Nat.le_refl _) inside hm
  have cols : 0 < s.cols := Nat.pos_of_mul_pos_right (Nat.zero_lt_of_lt inside)
  refine ⟨t.pix, ?_, fun x y hx hy => ?_, drawn.read_beyond⟩
  · rw [exec_unpack_of_inside geom inside, run, finish_ok, drawn.onlyPix]
    rfl
  · rw [drawn.read_inside x y hx hy]
    refine ite_congr (propext (dotNumber_cell_iff cols)) (fun block => ?_) fun _ => rfl
    obtain ⟨column, _⟩ := (dotNumber_cell_iff cols).2 block
    rw [State.tone, (cellIndex_eq_iff_of_column column).2 block]
    exact congrArg (Option.map _) hm

/-- Settles O54: all dots of the grid are drawn, and in the buffer they are the covered area. -/
theorem unpackallWritesTheCoveredArea : Obligations.UnpackallWritesTheCoveredArea := by
  refine ⟨rfl, fun s => finish_require_false, fun s geom unwritten => ?_, fun s geom written => ?_⟩
  · obtain ⟨f, stops⟩ := unpackGrid_stops unwritten
    exact ⟨f, by rw [exec_unpackall_of_geomOk geom, stops, finish_stop]⟩
  · obtain ⟨t, run, drawn⟩ := exec_unpackall_of_gridWritten geom written
    refine ⟨t.pix, ?_, fun x y hx hy => ?_, drawn.read_beyond⟩
    · rw [run, drawn.onlyPix]
      rfl
    · exact (drawn.read_inside x y hx hy).trans (if_congr (dotNumber_grid_iff hx hy) rfl rfl)

/-- Settles O55: the first masks' own dots, drawn white and black, decide themselves again. -/
theorem renderUnpackRenderIsIdempotent : Obligations.RenderUnpackRenderIsIdempotent := by
  intro s geom tones upright plain positive
  obtain ⟨t, u, v, first, unpack, second, masks, redrawn⟩ :=
    render_unpackall_render geom plain (coveredWritten_of_coveredPure tones)
  refine ⟨t, u, v, first, unpack, second, fun i => ?_⟩
  rw [masks, redrawn, redrawnDots_eq_cellDots upright positive]

/-- Settles O56: the first masks' own dots, drawn white and black, decide their complement in the covered area. -/
theorem invertedRoundTripComplements : Obligations.InvertedRoundTripComplements := by
  intro s geom tones inverted plain small
  obtain ⟨t, u, v, first, unpack, second, masks, redrawn⟩ :=
    render_unpackall_render geom plain (coveredWritten_of_coveredPure tones)
  refine ⟨t, u, v, first, unpack, second, fun i hi => ⟨s.cellDots i, s.redrawnDots i, ?_, ?_, fun b hb => ?_⟩⟩
  · rw [masks, if_pos hi]
  · rw [redrawn, if_pos hi]
  · rw [redrawnDots_getLsbD s i hb, dotOn_toneOf_inverted inverted small]
    split
    next covered => exact congrArg (· && _) covered
    next uncovered =>
      exact ⟨Bool.and_eq_false_imp.2 fun covered => absurd covered uncovered, cellDots_getLsbD_of_not_covered uncovered hb⟩

end Sys2Proof.Proofs
end

section
/-! The commands of the container (43_container.md R190 to R192): the reports of the two grid calculators field by field, and the
bounds-checked luminance query. -/

namespace Sys2Proof.Machine

/-! ### GRID_PIX and GRID_CELL (R190, R191) -/

section
variable {s : State}

theorem exec_gridPix_of_width_zero (h : s.width = 0) : exec .gridPix s = .next (s.reported 2#4) :=
  finish_require_false (decide_eq_false (not_not_intro h))

theorem exec_gridCell_of_cols_zero (h : s.cols = 0) : exec .gridCell s = .next (s.reported 2#4) :=
  finish_require_false (decide_eq_false (not_not_intro h))

/-- Covered pixels stand below the covered width and the covered height (R143). -/
theorem covered_iff_lt_coveredW_coveredH {x y : Nat} : s.covered x y = true ↔ x < s.coveredW ∧ y < s.coveredH := by
  rw [State.covered, Bool.and_eq_true, decide_eq_true_iff, decide_eq_true_iff]

/-- The report of `GRID_PIX`, field by field (R190). -/
theorem complete_gridPixResults (x y : Nat) (s : State) : complete (gridPixResults x y s) = { s with
    res0 := BitVec.ofNat 32 (x / 2)
    res1 := BitVec.ofNat 32 (y / 4)
    res2 := BitVec.ofNat 32 (s.cellIndex x y)
    res3 := BitVec.ofNat 32 (bitIdx x y + if x < s.coveredW ∧ y < s.coveredH then 0 else 2 ^ 31)
    done := true
    inFlight := none } := by
  rw [gridPixResults, bitIdx_or_notCovered, if_congr covered_iff_lt_coveredW_coveredH rfl rfl]
  rfl

/-- The report of `GRID_CELL`, field by field (R191). -/
theorem complete_gridCellResults (i col row : Nat) (s : State) : complete (gridCellResults i col row s) = { s with
    res0 := BitVec.ofNat 32 col
    res1 := BitVec.ofNat 32 row
    res2 := BitVec.ofNat 32 (4 * row * s.width + 2 * col)
    res3 := if i < s.cellCount then 0#32 else 0x80000000#32
    done := true
    inFlight := none } := by
  rw [gridCellResults, notCovered, if_congr decide_eq_true_iff rfl rfl]
  rfl

/-! ### LUMAXY (R192) -/

theorem exec_lumaxy_of_not_geomOk (h : s.geomOk = false) : exec .lumaxy s = .next (s.reported 2#4) :=
  finish_require_false h

theorem exec_lumaxy_of_outside (h : s.geomOk = true) (outside : s.width ≤ s.arg0Index ∨ s.height ≤ s.arg1Index) :
    exec .lumaxy s = .next (s.reported 3#4) := by
  have bound : (decide (s.arg0Index < s.width) && decide (s.arg1Index < s.height)) = false := by
    rw [Bool.and_eq_false_iff, decide_eq_false_iff_not, decide_eq_false_iff_not, Nat.not_lt, Nat.not_lt]
    exact outside
  exact (finish_require_true h).trans (finish_require_false bound)

/-- Inside the buffer the query comes down to the read of its pixel. -/
theorem exec_lumaxy_of_inside (h : s.geomOk = true) (hx : s.arg0Index < s.width) (hy : s.arg1Index < s.height) :
    exec .lumaxy s = finish s ((pixRead (s.pixelIndex s.arg0Index s.arg1Index) s).bind fun w =>
      .ok (writeRes0 ((luma w).zeroExtend 32) s)) :=
  (finish_require_true h).trans
    (finish_require_true (Bool.and_eq_true_iff.2 ⟨decide_eq_true hx, decide_eq_true hy⟩))

theorem exec_lumaxy_of_unwritten (h : s.geomOk = true) (hx : s.arg0Index < s.width) (hy : s.arg1Index < s.height)
    (unwritten : Memory.read s.pix (s.pixelIndex s.arg0Index s.arg1Index) = none) :
    exec .lumaxy s = .fault (.unwrittenPix (s.pixelIndex s.arg0Index s.arg1Index)) := by
  rw [exec_lumaxy_of_inside h hx hy, pixRead_eq_stop.2 ⟨unwritten, rfl⟩, Run.bind_stop, finish_stop]

theorem exec_lumaxy_of_written {w : Word} (h : s.geomOk = true) (hx : s.arg0Index < s.width) (hy : s.arg1Index < s.height)
    (written : Memory.read s.pix (s.pixelIndex s.arg0Index s.arg1Index) = some w) :
    exec .lumaxy s = .next (complete (writeRes0 ((luma w).zeroExtend 32) s)) := by
  rw [exec_lumaxy_of_inside h hx hy, pixRead_eq_ok.2 written, Run.bind_ok, finish_ok]

end

end Sys2Proof.Machine
end

section
/-! The statements of the family 43_container. -/

namespace Sys2Proof.Proofs

open Sys2Proof Sys2Proof.Machine

/-- Settles O57: the divisor guard, and the report of the pixel that `BUF_W` divides the address into. -/
theorem gridPixLocatesThePixel : Obligations.GridPixLocatesThePixel := by
  refine ⟨rfl, fun s => ⟨exec_gridPix_of_width_zero, fun width x y hx hy => ?_⟩⟩
  rw [exec_gridPix_of_width width hx hy, complete_gridPixResults]
  rfl

/-- Settles O58: the divisor guard, and the report of the cell that `CELL_COLS` divides the index into. -/
theorem gridCellLocatesTheCell : Obligations.GridCellLocatesTheCell := by
  refine ⟨rfl, fun s => ⟨exec_gridCell_of_cols_zero, ?_⟩⟩
  rintro cols _ _ rfl rfl
  rw [exec_gridCell_of_cols cols, complete_gridCellResults]
  rfl

/-- Settles O59, by the checks of `LUMAXY` in their order and its one read. -/
theorem lumaxyAnswersInsideTheBuffer : Obligations.LumaxyAnswersInsideTheBuffer := by
  refine ⟨rfl, ?_⟩
  rintro s _ rfl
  exact ⟨exec_lumaxy_of_not_geomOk, exec_lumaxy_of_outside, fun geom hx hy =>
    ⟨exec_lumaxy_of_unwritten geom hx hy, fun _ => exec_lumaxy_of_written geom hx hy⟩⟩

end Sys2Proof.Proofs
end

section
/-! The control command (44_control.md R210) and the statement of its family. -/

namespace Sys2Proof.Machine

/-- The pseudocode of `NOP` is no operation, so what is left of the run is its completion (R220). -/
theorem exec_nop (s : State) : exec .nop s = .next (complete s) := by
  rw [exec, execNop, finish_ok]

end Sys2Proof.Machine

namespace Sys2Proof.Proofs

open Sys2Proof Sys2Proof.Machine

/-- Settles O33: `complete` sets `DONE`, ends `BUSY` and writes nothing else. -/
theorem nopOnlyCompletes : Obligations.NopOnlyCompletes := by
  refine ⟨rfl, fun s => ?_⟩
  rw [exec_nop, complete]

end Sys2Proof.Proofs
end

section
/-! The errors of the commands (60_exceptions.md R221 to R226), what every command leaves as it is (R220), the capacity predicate
(R224) and the interrupt level (R230). -/

namespace Sys2Proof.Machine

/-! ### The errors a command can raise (R223) -/

/-- The rows `CFG` and `OOB` of R223, read by command: the errors it can raise. -/
@[simp] def errorsOf : Instr → List ErrCause
  | .nop | .lutgen | .luma | .curve | .decide | .glyphEnc | .glyphDec => []
  | .clear | .contrast | .encode | .render | .unpackall | .gridPix | .gridCell => [.cfg]
  | .encpix | .lumaxy | .glyphCell | .setglyph | .unpack => [.cfg, .oob]

theorem errorsOf_subset (i : Instr) : errorsOf i ⊆ [.cfg, .oob] := by
  cases i <;> simp

/-- No command reports the code of an ILLEGAL word or of a bus error. -/
theorem code_of_mem_errorsOf {i : Instr} {c : ErrCause} (mem : c ∈ errorsOf i) : c.code = 2#4 ∨ c.code = 3#4 := by
  have cause : c = .cfg ∨ c = .oob := by simpa using errorsOf_subset i mem
  exact cause.imp (congrArg ErrCause.code) (congrArg ErrCause.code)

theorem errorsOf_eq_nil_iff {i : Instr} :
    errorsOf i = [] ↔ i ∈ [Instr.lutgen, .luma, .curve, .decide, .glyphEnc, .glyphDec, .nop] := by
  cases i <;> simp

/-- A command's pseudocode run from `s`: where it ends well it has changed nothing but outputs, and an error it raises is one
of `cs`. -/
structure Run.RaisesWithin (s : State) (cs : List ErrCause) (r : Run State) : Prop where
  ok_evolves : ∀ t, r = .ok t → s.Evolves t
  raised : ∀ c, r = .raise c → c ∈ cs

section
variable {s t : State} {cs : List ErrCause}

/-- Pseudocode without a `raise` is within any list of errors. -/
theorem Run.RaisesWithin.of_ne_raise {r : Run State} (h : Run.EvolvesFrom s r) (never : ∀ c, r ≠ .raise c) :
    Run.RaisesWithin s cs r where
  ok_evolves := h.ok_evolves
  raised c hc := absurd hc (never c)

theorem Run.RaisesWithin.ok (h : s.Evolves t) : Run.RaisesWithin s cs (.ok t) := .of_ne_raise (.ok h) fun _ => nofun

/-- A check adds its own cause to the errors of what follows it. -/
theorem Run.RaisesWithin.require {passed : Bool} {c : ErrCause} {f : Unit → Run State} (mem : c ∈ cs)
    (h : Run.RaisesWithin s cs (f ())) : Run.RaisesWithin s cs ((Run.require passed c).bind f) := by
  cases passed with
  | true => exact h
  | false =>
    rw [Run.require_false, Run.bind_raise]
    exact ⟨fun _ => nofun, fun _ hc => by cases hc; exact mem⟩

/-- A read before a result raises nothing. -/
theorem Run.RaisesWithin.read {α : Type} {r : Run α} {g : α → State} (stops : ∀ x, r = .stop x → s.unwrittenAt x)
    (never : ∀ c, r ≠ .raise c) (h : ∀ a, s.Evolves (g a)) : Run.RaisesWithin s cs (r.bind fun a => .ok (g a)) :=
  .of_ne_raise (.bind_read stops fun a => .ok (h a)) fun c hc => by
    rcases Run.bind_eq_raise.1 hc with hr | ⟨a, _, ha⟩
    · exact never c hr
    · cases ha

end

theorem encpixBody_ne_raise (a x y : Nat) (s : State) (c : ErrCause) : encpixBody a x y s ≠ .raise c := by
  simp only [encpixBody, ne_eq, Run.bind_eq_raise, pixRead_ne_raise, false_or, not_exists, not_and, not_or]
  refine fun w _ => ⟨?_, fun _ _ => nofun⟩
  split
  · exact setDot_ne_raise x y s c
  · exact nofun

/-- Every command is the end of a piece of pseudocode whose errors are those R223 lists for it: they come from its checks
(R224 to R226), for no body raises one. -/
theorem exec_eq_finish_raisesWithin (i : Instr) (s : State) :
    ∃ r, exec i s = finish s r ∧ Run.RaisesWithin s (errorsOf i) r := by
  cases i with
  | nop => exact ⟨_, rfl, .ok (.refl s)⟩
  | clear => exact ⟨_, rfl, .require (by simp) (.of_ne_raise (clearBody_evolves s) (clearBody_ne_raise s))⟩
  | lutgen =>
    exact ⟨forUpTo Config.lutSize (lutgenEntry s.amount) s, rfl,
      .of_ne_raise (.forUpTo (lutgenEntry_evolves s.amount)) fun _ => forUpTo_ne_raise fun _ _ => nofun⟩
  | contrast => exact ⟨_, rfl, .require (by simp) (.of_ne_raise (contrastBody_evolves s) (contrastBody_ne_raise s))⟩
  | encode => exact ⟨_, rfl, .require (by simp) (.of_ne_raise (encodeBody_evolves s) (encodeBody_ne_raise s))⟩
  | render => exact ⟨_, rfl, .require (by simp) (.of_ne_raise (renderBody_evolves s) (renderBody_ne_raise s))⟩
  | encpix =>
    exact ⟨_, rfl, .require (by simp) (.require (by simp)
      (.of_ne_raise (encpixBody_evolves _ _ _ s) (encpixBody_ne_raise _ _ _ s)))⟩
  | luma => exact ⟨_, rfl, .ok (evolves_writeRes0 _ s)⟩
  | curve =>
    exact ⟨_, rfl, .read curveWord_stop_unwritten (curveWord_ne_raise s.arg0 s) fun w => evolves_writeRes0 w s⟩
  | decide => exact ⟨_, rfl, .ok (evolves_writeRes0 _ s)⟩
  | lumaxy =>
    exact ⟨_, rfl, .require (by simp) (.require (by simp)
      (.read pixRead_stop_unwritten (pixRead_ne_raise _ s) fun _ => evolves_writeRes0 _ s))⟩
  | glyphEnc => exact ⟨_, rfl, .ok (evolves_writeRes0 _ s)⟩
  | glyphCell =>
    exact ⟨_, rfl, .require (by simp) (.require (by simp)
      (.read maskRead_stop_unwritten (maskRead_ne_raise _ s) fun _ => evolves_writeRes10 _ _ s))⟩
  | glyphDec => exact ⟨_, rfl, .ok (evolves_writeRes10 _ _ s)⟩
  | setglyph =>
    exact ⟨_, rfl, .require (by simp) (.require (by simp)
      (.ok ((evolves_maskWrite _ _ s).trans (evolves_writeRes10 _ _ _))))⟩
  | unpack =>
    exact ⟨_, rfl, .require (by simp) (.require (by simp)
      (.of_ne_raise (unpackCell_evolves _ s) (unpackCell_ne_raise _ s)))⟩
  | unpackall =>
    exact ⟨_, rfl, .require (by simp)
      (.of_ne_raise (.forUpTo unpackCell_evolves) fun c => forUpTo_ne_raise fun i t => unpackCell_ne_raise i t c)⟩
  | gridPix => exact ⟨_, rfl, .require (by simp) (.ok (evolves_writeRes3210 _ _ _ _ s))⟩
  | gridCell => exact ⟨_, rfl, .require (by simp) (.ok (evolves_writeRes3210 _ _ _ _ s))⟩

/-- A command that answers a next state has completed without an error, or has only reported one of its own (R221, R223). -/
theorem exec_next_completed_or_reported {i : Instr} {s t : State} (h : exec i s = .next t) :
    (∃ u, s.Evolves u ∧ t = complete u) ∨ ∃ c ∈ errorsOf i, t = s.reported c.code := by
  obtain ⟨r, hr, within⟩ := exec_eq_finish_raisesWithin i s
  rcases finish_eq_next.1 (hr ▸ h) with ⟨u, hu, rfl⟩ | ⟨c, hc, rfl⟩
  · exact .inl ⟨u, within.ok_evolves u hu, rfl⟩
  · exact .inr ⟨c, within.raised c hc, rfl⟩

/-! ### What every command leaves as it is (R220) -/

/-- Outputs are no part of `STATUS`. -/
theorem State.Evolves.status {s t : State} (h : s.Evolves t) : t.err = s.err ∧ t.errcode = s.errcode := by
  rw [h.onlyOutputs]
  exact ⟨rfl, rfl⟩

/-- A completed command has changed its outputs and `STATUS` alone. -/
theorem exec_next_frame {i : Instr} {s t : State} (h : exec i s = .next t) :
    t = { s.withOutputs t with done := true, err := t.err, errcode := t.errcode, inFlight := none } := by
  rcases exec_next_cases h with ⟨u, evolved, rfl⟩ | ⟨c, rfl⟩
  · rw [evolved.onlyOutputs]
    rfl
  · rfl

/-! ### The capacity check (R224) -/

/-- The ten commands of R223 row `CFG` that check `GEOM_OK` do so before anything else. -/
theorem exec_begins_with_geomOk {i : Instr}
    (mem : i ∈ [Instr.clear, .contrast, .encode, .render, .encpix, .lumaxy, .glyphCell, .setglyph, .unpack, .unpackall])
    (s : State) : ∃ f, exec i s = finish s ((Run.require s.geomOk .cfg).bind f) := by
  simp only [List.mem_cons, List.not_mem_nil, or_false] at mem
  rcases mem with rfl | rfl | rfl | rfl | rfl | rfl | rfl | rfl | rfl | rfl <;> exact ⟨_, rfl⟩

/-! ### The interrupt level (R230) -/

theorem irq_eq_true_iff {s : State} :
    s.irq = true ↔ (s.done = true ∧ s.irqEn.getLsbD 0 = true) ∨ (s.err = true ∧ s.irqEn.getLsbD 1 = true) := by
  rw [State.irq, Bool.or_eq_true, Bool.and_eq_true, Bool.and_eq_true, State.doneIe, State.errIe]

/-- A host write of 1 to `DONE` clears that bit alone (R31). -/
theorem acknowledge_done_only (s : State) : acknowledge 0x00000002#32 s = { s with done := false } := by
  rw [acknowledge_eq]
  rfl

/-! ### The next step (R220, R237) -/

theorem decodeTableWord_eq_some_iff {n w : Nat} {i : Instr} :
    decodeTableWord n w = some i ↔ decode (commandWordOf n w) = .ok i := by
  unfold decodeTableWord
  cases decode (commandWordOf n w) <;> simp

theorem runCommand_of_ok {w : Word} {i : Instr} (h : decode w = .ok i) (s : State) : runCommand w s = exec i s := by
  rw [runCommand, h]

theorem step_idle_nothing {s : State} (hidle : s.inFlight = none) (hbox : s.inbox = []) : step s = .next s := by
  simp only [step, advance, hidle, idleTurn, hbox]

end Sys2Proof.Machine
end

section
/-! The statements of the family 60_exceptions. -/

namespace Sys2Proof.Proofs

open Sys2Proof Sys2Proof.Machine

/-- Settles O27: the fields of the frame that every command keeps. -/
theorem completionFrame : Obligations.CompletionFrame := by
  intro i s t h
  rw [exec_next_frame h]
  exact ⟨rfl, rfl, ⟨rfl, rfl, rfl, rfl, rfl, rfl, rfl⟩, ⟨rfl, rfl, rfl⟩, rfl, rfl, rfl, rfl⟩

/-- Settles O29: a command that completed without an error kept `ERR` and `ERRCODE`; one that did not reported an error of R223. -/
theorem erroringCommandOnlyReports : Obligations.ErroringCommandOnlyReports := by
  intro i s t h
  rcases exec_next_completed_or_reported h with ⟨u, evolved, rfl⟩ | ⟨c, mem, rfl⟩
  · obtain ⟨err, errcode⟩ := evolved.status
    rw [complete_err, complete_errcode, err, errcode]
    exact ⟨fun clear set => (nomatch clear.symm.trans set), fun set => ⟨set, rfl⟩, fun _ => rfl, fun _ => ⟨rfl, rfl⟩⟩
  · refine ⟨fun _ _ => ?_, fun set => ⟨rfl, if_pos set⟩, nofun, fun quiet => ?_⟩
    · exact (code_of_mem_errorsOf mem).imp (congrArg s.reported) (congrArg s.reported)
    · rw [errorsOf_eq_nil_iff.2 quiet] at mem
      cases mem

/-- Settles O4, by the two turns in which the engine runs the command in flight. -/
theorem stepRunsDecodedCommand : Obligations.StepRunsDecodedCommand := fun s _ _ hbusy hdec =>
  ⟨fun hbox => (step_busy_waiting hbusy (.inl hbox)).trans (runCommand_of_ok hdec s),
    fun a rest hbox => (step_busy_waiting hbusy (.inr ⟨a, rest, hbox⟩)).trans (runCommand_of_ok hdec s),
    fun _ hbox => step_engine hbusy hdec hbox⟩

/-- Settles O5: placing a word leaves the engine's turn next, and that turn uses itself up. -/
theorem placedCommandRunsNext : Obligations.PlacedCommandRunsNext := by
  intro s n i hdec
  rw [step_withFetchWord, runCommand_of_ok (decodeTableWord_eq_some_iff.1 hdec)]
  rfl

/-- Settles O9, by the idle block's turn. -/
theorem idleBlockKeepsState : Obligations.IdleBlockKeepsState := fun _ => step_idle_nothing

/-- Settles O26: the level formula, then `NOP` and the acknowledgement through it. -/
theorem interruptFollowsStatus : Obligations.InterruptFollowsStatus := by
  refine ⟨rfl, fun _ => irq_eq_true_iff, fun s doneIe => ⟨complete s, exec_nop s, ?_, fun errLow => ?_⟩⟩
  · exact irq_eq_true_iff.2 (.inl ⟨rfl, doneIe⟩)
  · rw [acknowledge_done_only, ← Bool.not_eq_true, irq_eq_true_iff]
    rintro (⟨done, _⟩ | ⟨err, errIe⟩)
    · cases done
    · rcases errLow with low | off
      · exact nomatch low.symm.trans err
      · exact nomatch off.symm.trans errIe

/-- Settles O31: the predicate bounds both products, and a failed first check is the report of `CFG`. -/
theorem capacityCheckRaisesCfg : Obligations.CapacityCheckRaisesCfg := by
  intro s
  refine ⟨geomOk_iff, fun geom => ?_, fun i mem unfit => ?_⟩
  · obtain ⟨cells, pixels⟩ := geomOk_iff.1 geom
    exact ⟨fun i hi => Nat.lt_of_lt_of_le hi cells, fun p hp => Nat.lt_of_lt_of_le hp pixels⟩
  · obtain ⟨f, begins⟩ := exec_begins_with_geomOk mem s
    exact begins.trans (finish_require_false unfit)

end Sys2Proof.Proofs
end

section
/-! The reset input (70_reset_and_hazards.md R260 to R262): the step that takes it, and what the block holds once it is released. -/

namespace Sys2Proof.Machine

/-! ### Taking a reset (R262) -/

/-- A reset is taken at the idle block and with any command in flight alike, and that command is abandoned. -/
theorem step_reset {s : State} {rest : List Event} (hbox : s.inbox = .reset :: rest) : step s = .next (resetBlock rest s) := by
  cases hflight : s.inFlight with
  | none => simp only [step, advance, hflight, idleTurn, hbox]
  | some w => simp only [step, advance, hflight, busyTurn, hbox]

/-! ### The block after a reset (R260, R261) -/

section
variable (m p : Nat) (events : List Event) (answered : List Word)

/-- `STATUS` is 0 after a reset: not busy, no `DONE`, no `ERR`, no code (R31, R260). -/
theorem statusWord_afterReset : statusWord (State.afterReset m p events answered) = 0#32 := by
  change (0#24 ++ 0#4) ++ (0#1 ++ (BitVec.ofBool false ++ (BitVec.ofBool false ++ BitVec.ofBool false))) = 0#32
  decide

/-- The reset values of the register map but for its three nonzero rows (R21, R260). -/
theorem readReg_afterReset {r : Reg} (hid : r ≠ .id) (hmask : r ≠ .maskDepth) (hpix : r ≠ .pixDepth) :
    readReg r (State.afterReset m p events answered) = 0#32 := by
  cases r with
  | id => exact absurd rfl hid
  | maskDepth => exact absurd rfl hmask
  | pixDepth => exact absurd rfl hpix
  | status => exact statusWord_afterReset m p events answered
  | _ => rfl

theorem afterReset_unwritten (a : Nat) :
    Memory.read (State.afterReset m p events answered).lut a = none ∧
    Memory.read (State.afterReset m p events answered).mask a = none ∧
    Memory.read (State.afterReset m p events answered).pix a = none :=
  ⟨Memory.read_nil a, Memory.read_nil a, Memory.read_nil a⟩

end

/-- The type of each parameter admits only depths within R6. -/
theorem depthsWellFormed_config : depthsWellFormed Config.maskDepth Config.pixDepth = true :=
  depthsWellFormed_iff.2
    ⟨⟨Nat.succ_pos _, Config.maskDepthPred.isLt⟩, ⟨Nat.succ_pos _, Config.pixDepthPred.isLt⟩⟩

end Sys2Proof.Machine
end

section
/-! The statements of the family 70_reset_and_hazards. -/

namespace Sys2Proof.Proofs

open Sys2Proof Sys2Proof.Machine

/-- Settles O10: the step that takes the reset leaves the block as released, with the depths it had. -/
theorem resetEventResetsBlock : Obligations.ResetEventResetsBlock := fun s rest hbox =>
  ⟨resetBlock rest s, step_reset hbox, rfl, ⟨rfl, rfl, rfl, rfl, rfl, rfl, rfl⟩, ⟨rfl, rfl, rfl, rfl, rfl, rfl⟩,
    ⟨rfl, rfl, rfl, rfl, rfl, rfl⟩, ⟨rfl, rfl⟩, afterReset_unwritten s.maskDepth s.pixDepth rest s.replies⟩

/-- Settles O11, by the register map's reset values and the empty memories. -/
theorem resetStateAsSpecified : Obligations.ResetStateAsSpecified :=
  ⟨rfl, fun _ => readReg_afterReset Config.maskDepth Config.pixDepth [] [], rfl, rfl, rfl, rfl,
    afterReset_unwritten Config.maskDepth Config.pixDepth [] []⟩

/-- Settles O12: a block released from reset is sound once its depths are, and the parameters are within R6. -/
theorem resetIsSound : Obligations.ResetIsSound := sound_afterReset depthsWellFormed_config [] []

end Sys2Proof.Proofs
end
